-- ==== Sys2Proof/Word.lean ====
section
/-! DEFINITION. The byte, the one unit the AG4's ports send and take (12_formats.md, chapter 12: "Offsets are
counted in bytes from 0, and widths are in bytes"). Everything else the manual counts is a plain number. -/

namespace Sys2Proof

/-- One byte of a frame, a card image, a tariff block or a journal slot (chapter 12). -/
abbrev Byte := BitVec 8

end Sys2Proof
end

