-- ==== Sys2Proof/Syntax.lean ====
section
/-! DEFINITION. The commands and events the AG4 takes: one constructor of `Instr` for each row of
spec/opcode_table.json, with the operands the rule of its row gives it, and the data types of those operands. -/

namespace Sys2Proof

/-- The two ends of the aisle (00_scope.md, "Ends and directions"). -/
inductive End where
  | a
  | b
  deriving DecidableEq, Repr

/-- The end facing the given one. -/
def End.other : End → End
  | .a => .b
  | .b => .a

/-- A reading of the three sensing zones, `true` for occupied (7.1). -/
structure Zones where
  zA : Bool
  zF : Bool
  zB : Bool
  deriving DecidableEq, Repr

/-- The two limit switches of the flaps (7.2). -/
inductive Limit where
  | openLimit
  | closedLimit
  deriving DecidableEq, Repr

/-- The two blink generators (7.6). -/
inductive BlinkGen where
  | bg1
  | bg2
  deriving DecidableEq, Repr

/-- How a station frame is sent: to this aisle's number, or to the broadcast number 63 (R181). -/
inductive Form where
  | addressed
  | broadcast
  deriving DecidableEq, Repr

/-- The card image of section 1.1 in the field order of section 12.3. Each number is what the field's bytes spell,
so a value beyond the range of R1 can be presented; `state` is the state code, OUT 0 and IN 1. -/
structure CardImage where
  card : Nat
  cls : Nat
  state : Nat
  balance : Int
  sequence : Nat
  entryStation : Nat
  entryTime : Nat
  entryAisle : Nat
  dayNumber : Nat
  daySpend : Nat
  expiryDay : Nat
  keyIndex : Nat
  check : Nat
  deriving DecidableEq, Repr

/-- One deny entry as a DENY_ADD carries it: a card number and a reason code (12.5). -/
structure DenyItem where
  card : Nat
  reason : Nat
  deriving DecidableEq, Repr

/-- The commands and events of spec/opcode_table.json, one constructor a row, in the table's order. -/
inductive Instr where
  /-- END_PORT_TRANSFER: select goes high. The whole bytes clocked in, and how many clocks of a last partial byte
  followed them (R174 disregards those). -/
  | endPortTransfer (e : End) (inward : List Byte) (spareClocks : Nat)
  /-- PRESENT: the port of end `e` takes a PRESENT with this card image. -/
  | present (e : End) (image : CardImage)
  /-- COMMIT with its card number. -/
  | commit (e : End) (card : Nat)
  /-- ABORT with its card number. -/
  | abort (e : End) (card : Nat)
  /-- STATUS. -/
  | status (e : End)
  /-- EVENTS_ENABLE with its byte of enables. -/
  | eventsEnable (e : End) (enables : Byte)
  /-- COMMIT_DEADLINE: the commit deadline of end `e`'s context runs out. -/
  | commitDeadline (e : End)
  /-- WAIT_DEADLINE: the wait deadline of end `e`'s context runs out. -/
  | waitDeadline (e : End)
  /-- PASSAGE_DEADLINE: the head credit's deadline runs out. -/
  | passageDeadline
  /-- ZONE_CHANGE: a beam sample that leaves the three zones as given (R115). -/
  | zoneChange (zones : Zones)
  /-- LOITER: the loiter timer runs out. -/
  | loiter
  /-- CLOSE_DELAY_EXPIRY. -/
  | closeDelayExpiry
  /-- REOPEN_DELAY_EXPIRY. -/
  | reopenDelayExpiry
  /-- CLOSE_HOLD_EXPIRY. -/
  | closeHoldExpiry
  /-- FLAP_LIMIT_REACHED: the named limit's accepted value becomes active. -/
  | flapLimitReached (limit : Limit)
  /-- FLAP_LIMIT_LOST: the named limit's accepted value becomes inactive. -/
  | flapLimitLost (limit : Limit)
  /-- MOTION_TIMEOUT. -/
  | motionTimeout
  /-- OBSTRUCTION: the obstruction count reaches 4. -/
  | obstruction
  /-- RETRY_PAUSE_END. -/
  | retryPauseEnd
  /-- BUZZER_PULSE_END. -/
  | buzzerPulseEnd
  /-- BLINK_PHASE_CHANGE of one generator. -/
  | blinkPhaseChange (g : BlinkGen)
  /-- SECOND_TICK of the crystal. -/
  | secondTick
  /-- EMERG_ASSERTED: the filtered input asserts. -/
  | emergAsserted
  /-- EMERG_DEASSERTED: the filtered input deasserts. -/
  | emergDeasserted
  /-- RELEASE_TIMER_EXPIRY of the EMERG input. -/
  | releaseTimerExpiry
  /-- INFO, addressed. -/
  | info
  /-- TIME_SET with its seconds value. -/
  | timeSet (form : Form) (seconds : Nat)
  /-- PARAM_SET with its parameter number and 16-bit value. -/
  | paramSet (number value : Nat)
  /-- PARAM_GET with its parameter number. -/
  | paramGet (number : Nat)
  /-- MODE_SET with its mode code, OUT 0 and IN 1. -/
  | modeSet (form : Form) (mode : Nat)
  /-- FAULT_CLEAR. -/
  | faultClear
  /-- EMERGENCY_SET. -/
  | emergencySet (form : Form)
  /-- EMERGENCY_CLEAR. -/
  | emergencyClear (form : Form)
  /-- AMNESTY_ADD with one window: station code, from-minute, to-minute. -/
  | amnestyAdd (form : Form) (station fromMinute toMinute : Nat)
  /-- DENY_RELOAD with its generation. -/
  | denyReload (form : Form) (generation : Nat)
  /-- DENY_ADD with its generation and entries. -/
  | denyAdd (form : Form) (generation : Nat) (items : List DenyItem)
  /-- DENY_REMOVE with its generation and card numbers. -/
  | denyRemove (form : Form) (generation : Nat) (cards : List Nat)
  /-- DENY_ENTRY_APPLY: one entry of the station deny frame being applied is taken (R89). -/
  | denyEntryApply
  /-- DENY_COMPLETE with its generation. -/
  | denyComplete (form : Form) (generation : Nat)
  /-- DENY_INFO with a card number or none. -/
  | denyInfo (card : Option Nat)
  /-- TARIFF_BEGIN with the announced version and effective day. -/
  | tariffBegin (version effectiveDay : Nat)
  /-- TARIFF_BLOCK with its index and data. -/
  | tariffBlock (index : Nat) (data : List Byte)
  /-- TARIFF_END with the tariff check of the image. -/
  | tariffEnd (check : Nat)
  /-- TARIFF_VALIDATE: the load's queued operations are done and the pending tariff is validated. -/
  | tariffValidate
  /-- TARIFF_CANCEL. -/
  | tariffCancel
  /-- TARIFF_INFO. -/
  | tariffInfo
  /-- JOURNAL_INFO. -/
  | journalInfo
  /-- JOURNAL_READ with its starting sequence and count. -/
  | journalRead (start count : Nat)
  /-- JOURNAL_READ_NEXT with its count. -/
  | journalReadNext (count : Nat)
  /-- JOURNAL_RELEASE with its release limit. -/
  | journalRelease (limit : Nat)
  /-- EVENTS_CLEAR with its 16-bit mask. -/
  | eventsClear (mask : Nat)
  /-- RESTART. -/
  | restart
  /-- STATION_FRAME: a frame arrives whole, its break and sync at the measured bit rate, then these bytes: address,
  kind, length, payload, check (R180, R181). -/
  | stationFrame (bitRate : Nat) (bytes : List Byte)
  /-- LINE_BREAK. -/
  | lineBreak
  /-- STATION_REPLY: the reply in hand begins. -/
  | stationReply
  /-- STATION_REPLY_END: its last stop bit is sent. -/
  | stationReplyEnd
  /-- COLLISION: a reply bit reads back at another level. -/
  | collision
  /-- RECORD_PROGRAM_DONE with its result. -/
  | recordProgramDone (verified : Bool)
  /-- PAGE_RELEASE_DONE with its result. -/
  | pageReleaseDone (verified : Bool)
  /-- TARIFF_ERASE_DONE with its result. -/
  | tariffEraseDone (verified : Bool)
  /-- BLOCK_PROGRAM_DONE with its result. -/
  | blockProgramDone (verified : Bool)
  /-- COMPLETION_RECORD_DONE with its result. -/
  | completionRecordDone (verified : Bool)
  /-- ACTIVATION_MARKER_DONE with its result. -/
  | activationMarkerDone (verified : Bool)
  /-- SUPPLY_UP: the supply comes up from none; whether the backup supply held meanwhile (R24). -/
  | supplyUp (backupHeld : Bool)
  /-- SUPPLY_LOSS. -/
  | supplyLoss
  /-- RESET_PIN_ASSERTED. -/
  | resetPinAsserted
  /-- RESET_PIN_RELEASED. -/
  | resetPinReleased
  /-- PFW_ASSERTED: PFW is taken asserted. -/
  | pfwAsserted
  /-- PFW_DEASSERTED: PFW is taken deasserted. -/
  | pfwDeasserted
  /-- HOLDOVER_END. -/
  | holdoverEnd
  /-- STARTUP_END. -/
  | startupEnd
  /-- TRANSFER_BEGIN: select goes low at end `e`. -/
  | transferBegin (e : End)
  /-- INCOMPLETE_FRAME. -/
  | incompleteFrame
  /-- FRAMING_ERROR. -/
  | framingError
  deriving DecidableEq, Repr

end Sys2Proof
end

