-- ==== Sys2Proof/Decode.lean ====
section
/-! DEFINITION. The command a numbered word spells. Every row of spec/opcode_table.json carries an empty list of
bit fields: the AG4's commands are framed messages and events, none is a word of bits. The frames themselves are
decoded in Machine/Operands.lean. -/

namespace Sys2Proof

/-- No row of the table gives bits, so no word spells a command. -/
def decodeTableWord (_nbits _w : Nat) : Option Instr := none

end Sys2Proof
end

