-- ==== Sys2Proof/Config.lean ====
section
/-! DEFINITION. What an implementation fixes and the manual does not: the free values. No definition here has a
body, so no proof can depend on what a value is. -/

namespace Sys2Proof

/-- A free value (assumption log 5). Draw `n` of the part's own undetermined outcomes: whether a flash operation
that was abandoned or failed left its target as it was (`true`) or changed it (`false`), where the manual does not
say (R34, R40, R159, R171). `State.draws` counts the draws made. -/
opaque Config.freeBool : Nat → Bool

end Sys2Proof
end

