-- ==== Sys2Proof/Machine/Types.lean ====
section
/-! DEFINITION. The plain data types State is made of, block by block as 00_scope.md lists the blocks. -/

namespace Sys2Proof.Machine

/-! ## Ends, directions and filters -/

/-- A value for each end. -/
structure PerEnd (α : Type) where
  a : α
  b : α
  deriving DecidableEq, Repr

/-- The direction of passage (00_scope.md). -/
inductive Dir where
  | aToB
  | bToA
  deriving DecidableEq, Repr

/-- What a sampled input holds: its raw level, the previous raw sample and the accepted value (R114). -/
structure Filter where
  raw : Bool
  prev : Bool
  accepted : Bool
  deriving DecidableEq, Repr

/-! ## Authorization unit -/

/-- The transaction flags (12.3, flag byte). -/
structure Flags where
  overdraft : Bool := false
  incompleteFee : Bool := false
  amnesty : Bool := false
  unknownOrigin : Bool := false
  sameStation : Bool := false
  timeSkew : Bool := false
  listUnverified : Bool := false
  held : Bool := false
  deriving DecidableEq, Repr

/-- The role of an end, fixed by the orientation parameter; also the kind of a sighting entry (4.1). -/
inductive Role where
  | entry
  | exit
  deriving DecidableEq, Repr

/-- The kind of a grant (1.2). -/
inductive GrantKind where
  | entry
  | exit
  | retap
  | recovery
  deriving DecidableEq, Repr

/-- The refusal reasons (12.3). -/
inductive Reason where
  | emergency
  | outOfService
  | recordInvalid
  | cardExhausted
  | denied
  | cloneSuspect
  | alreadyGranted
  | passback
  | cardExpired
  | lowBalance
  | noEntryRecord
  | insufficient
  | aisleBusy
  deriving DecidableEq, Repr

/-- The sub-causes of OUT_OF_SERVICE (12.3). -/
inductive SubCause where
  | notConfigured
  | timeInvalid
  | noTariff
  | stationMode
  | fault
  | journalFull
  deriving DecidableEq, Repr

/-- The service summary of R178. -/
inductive Summary where
  | inService
  | emergency
  | sub (c : SubCause)
  deriving DecidableEq, Repr

/-- What has become of a sighted grant (4.1), with the context link of DECIDED and the journal reference of
UNCONFIRMED. The credit link of PENDING is the card number itself: the queue holds one credit a card (R100). -/
inductive Sighted where
  | decided (link : End)
  | pending
  | used
  | unused
  | unconfirmed (reference : Nat)
  deriving DecidableEq, Repr

/-- A sighting entry (4.1). -/
structure Sighting where
  card : Nat
  kind : Role
  fromEnd : End
  outcome : Sighted
  oldSeq : Nat
  newSeq : Nat
  balance : Int
  time : Nat
  deriving DecidableEq, Repr

/-- The fields of a transaction context outside IDLE (1.2). `presBalance` and `entryStation` are what the records
of R16 and R19 need of the presented image. -/
structure Txn where
  kind : GrantKind
  card : Nat
  presSeq : Nat
  presBalance : Int
  entryStation : Nat
  charge : Nat
  image : Option CardImage
  flags : Flags
  previous : Option Sighting
  reference : Option Nat
  deriving DecidableEq, Repr

/-- A transaction context (R4), with the milliseconds left to its deadline. In WAIT_AISLE the journal reservation is
held and the aisle reservation waits; in DECIDED both are held; in IDLE neither. -/
inductive Ctx where
  | idle
  | waitAisle (t : Txn) (deadline : Nat)
  | decided (t : Txn) (deadline : Nat)
  deriving DecidableEq, Repr

/-- The authorization unit: two contexts and their late cards. -/
structure AuthUnit where
  ctx : PerEnd Ctx
  lateCard : PerEnd (Option Nat)
  deriving DecidableEq, Repr

/-! ## Aisle arbiter -/

/-- The aisle state; SERVING(d) and VIOLATION(d) take their d from the owned direction (6.1). -/
inductive AisleState where
  | idle
  | serving
  | violation
  | emergency
  | outOfService
  deriving DecidableEq, Repr

/-- A credit (6.1), with the milliseconds left to its passage deadline once that has started. -/
structure Credit where
  fromEnd : End
  card : Nat
  kind : GrantKind
  deadline : Option Nat
  deriving DecidableEq, Repr

/-- The aisle arbiter (6.1). A timer is `none` when stopped; the reopen-delay timer is `some 0` when it has run out
and the violation still waits for the flaps (R106). -/
structure Arbiter where
  state : AisleState
  owned : Option Dir
  reservation : Option End
  credits : List Credit
  waiting : PerEnd Bool
  lastServed : End
  closeDelay : Option Nat
  reopenDelay : Option Nat
  attention : Bool
  deriving DecidableEq, Repr

/-! ## End ports -/

/-- A lamp (7.6). -/
inductive Lamp where
  | off
  | steady
  | bg1
  | bg2
  deriving DecidableEq, Repr

/-- The two lamps of an end. -/
structure LampPair where
  go : Lamp
  stop : Lamp
  deriving DecidableEq, Repr

/-- A decision (12.3). -/
inductive Decision where
  | refused (r : Reason) (sub : Option SubCause)
  | granted (kind : GrantKind) (charge : Nat) (flags : Flags) (image : Option CardImage)
  deriving DecidableEq, Repr

/-- The state of a context as STATUS_REPORT codes it (12.7). -/
inductive CtxTag where
  | idle
  | waitAisle
  | decided
  deriving DecidableEq, Repr

/-- The fields of STATUS_REPORT after its port byte (12.7). -/
structure StatusReport where
  context : CtxTag
  aisle : AisleState
  owned : Option Dir
  credits : Nat
  lamps : LampPair
  summary : Summary
  decisionReady : Bool
  serviceChanged : Bool
  overrun : Bool
  deriving DecidableEq, Repr

/-- The end-port responses (12.9). -/
inductive Response where
  | decision (d : Decision)
  | pending
  | sequenceError
  | commitDone
  | commitLate
  | noContext
  | abortDone
  | statusReport (r : StatusReport)
  | enablesSet (decisionReady serviceChanged : Bool)
  | badLength
  | frameError
  | unknownRequest
  deriving DecidableEq, Repr

/-- A produced response, marked when it is a late decision (R176, R178). -/
structure Posted where
  response : Response
  late : Bool
  deriving DecidableEq, Repr

/-- The end-port requests (R177). -/
inductive EndRequest where
  | present (image : CardImage)
  | commit (card : Nat)
  | abort (card : Nat)
  | status
  | eventsEnable (enables : Byte)
  deriving DecidableEq, Repr

/-- A transfer in progress: the READY level at the falling edge of select, the outward frame with its OVERRUN bit,
and whether that frame is the response buffer's (R174, R175). -/
structure Transfer where
  ready : Bool
  outward : List Byte
  fromBuffer : Bool
  overrunSent : Bool
  deriving DecidableEq, Repr

/-- An end port (11.1). `dataOut` is what data-out carried in the transfer that ended last; `selectLow` is the level of the
select line, low also where the port holds no transfer, as in HALT (R172, R176). -/
structure EndPort where
  request : Option EndRequest
  buffer : Option Posted
  waiting : List Posted
  decisionReady : Bool
  serviceChanged : Bool
  enableDecision : Bool
  enableService : Bool
  overrun : Bool
  transfer : Option Transfer
  selectLow : Bool
  dataOut : List Byte
  deriving DecidableEq, Repr

/-! ## Station port -/

/-- The ten station attention flags (R185). -/
structure Attention where
  journalNearFull : Bool := false
  cloneDetected : Bool := false
  denyGap : Bool := false
  denyOverflow : Bool := false
  fault : Bool := false
  emergency : Bool := false
  tariffActivated : Bool := false
  timeInvalid : Bool := false
  collision : Bool := false
  bcastMissed : Bool := false
  deriving DecidableEq, Repr

/-- The status codes of a station reply (R186). -/
inductive Status where
  | ok
  | busy
  | badState
  | badValue
  | notReady
  | unknown
  deriving DecidableEq, Repr

/-- An owner's answer to a station request (R183). A payload goes with OK alone (12.9). -/
structure Answer where
  status : Status
  payload : List Byte
  deriving DecidableEq, Repr

/-- A station reply but for its aisle number, length and check (12.2). -/
structure Reply where
  kind : Nat
  status : Status
  payload : List Byte
  deriving DecidableEq, Repr

/-- The receive state of the line (R180): waiting for a break, or after one. -/
inductive Receive where
  | waitBreak
  | afterBreak
  deriving DecidableEq, Repr

/-- The frame in the inbound buffer: its form and kind, and whether a break has cancelled its reply (R182). -/
structure Inbound where
  form : Form
  kind : Nat
  cancelled : Bool
  deriving DecidableEq, Repr

/-- The station port (11.3). `reply` is the reply in hand, `direction` the direction line, `bitRate` the measured
rate in bits per second, `sent` the bytes the last whole reply put on the line. -/
structure StationPort where
  receive : Receive
  bitRate : Option Nat
  inbound : Option Inbound
  reply : Option Reply
  direction : Bool
  attention : Attention
  sent : List Byte
  deriving DecidableEq, Repr

/-! ## Time base and tariff store -/

/-- The time base (2.1). -/
structure TimeBase where
  counter : Nat
  valid : Bool
  day : Option Int
  deriving DecidableEq, Repr

/-- A fare band (2.3). -/
structure Band where
  start : Nat
  percent : Nat
  deriving DecidableEq, Repr

/-- A row of the class table (2.3). -/
structure ClassRow where
  discount : Nat
  cap : Nat
  overdraft : Nat
  minEntry : Nat
  freeTravel : Bool
  deriving DecidableEq, Repr

/-- The day types (R28). -/
inductive DayType where
  | weekday
  | saturday
  | sundayHoliday
  deriving DecidableEq, Repr

/-- The contents of a tariff (2.3). -/
structure Tariff where
  version : Nat
  effectiveDay : Nat
  stations : List Nat
  step : Nat
  fares : List Nat
  weekday : List Band
  saturday : List Band
  sunday : List Band
  holidays : List Nat
  epochWeekday : Nat
  rollover : Nat
  classes : List ClassRow
  incompleteFee : Nat
  sameStationFee : Nat
  overstay : Nat
  grace : Nat
  retapWindow : Nat
  maxJourney : Nat
  skewTolerance : Nat
  keys : List (Option (List Byte))
  writeKey : Nat
  deriving DecidableEq, Repr

/-- The pending states (2.4). -/
inductive PendingState where
  | empty
  | loading
  | ready
  | rejected
  deriving DecidableEq, Repr

/-- The rejection reasons (R32). -/
inductive Reject where
  | flash
  | blockSet
  | checkMismatch
  | headerMismatch
  | step
  | bands
  | range
  | noWriteKey
  deriving DecidableEq, Repr

/-- The two tariff areas of flash (2.4). -/
inductive AreaId where
  | one
  | two
  deriving DecidableEq, Repr

/-- A completion record (R33). -/
structure Completion where
  version : Nat
  effectiveDay : Nat
  blockCount : Nat
  check : Nat
  deriving DecidableEq, Repr

/-- An entry of the tariff queue (2.4). -/
inductive TariffOp where
  | erase (area : AreaId)
  | block (area : AreaId) (index : Nat) (data : List Byte)
  | completion (area : AreaId) (record : Completion)
  | marker (area : AreaId) (number version : Nat)
  deriving DecidableEq, Repr

/-- The pending tariff. `failed` notes a failed erase or block program of this load (R40), `endCheck` the check of a
TARIFF_END that waits (R33), `image` the working copy of a READY tariff. -/
structure Pending where
  state : PendingState
  version : Nat
  effectiveDay : Nat
  taken : List Nat
  failed : Bool
  endCheck : Option Nat
  reason : Option Reject
  image : Option Tariff
  deriving DecidableEq, Repr

/-- The tariff store (2.4). `pendingArea` is the area that is not the current one. -/
structure TariffStore where
  current : Option Tariff
  pendingArea : AreaId
  pending : Pending
  queue : List TariffOp
  deriving DecidableEq, Repr

/-! ## Deny list -/

/-- Who listed a number (5.1): STATION, or LOCAL for the aisle itself. -/
inductive Origin where
  | station
  | aisle
  deriving DecidableEq, Repr

/-- A deny entry (5.1). -/
structure DenyEntry where
  card : Nat
  origin : Origin
  reason : Nat
  added : Nat
  deriving DecidableEq, Repr

/-- The list state (5.2). -/
inductive ListState where
  | empty
  | loading
  | complete
  deriving DecidableEq, Repr

/-- What remains of a station deny frame being applied (R89): its kind, its generation, its untaken items (a
DENY_REMOVE's reasons are not read) and the count not listed. -/
structure DenyJob where
  adding : Bool
  generation : Nat
  rest : List DenyItem
  notAdded : Nat
  deriving DecidableEq, Repr

/-- The deny list (5.1, 5.2): entries in card-number order, the LOCAL ones again in the local order. -/
structure DenyList where
  entries : List DenyEntry
  localOrder : List Nat
  generation : Nat
  state : ListState
  overflow : Bool
  gap : Bool
  job : Option DenyJob
  deriving DecidableEq, Repr

/-! ## Passage monitor and flap drive -/

/-- The six beams (7.1). -/
structure Beams where
  b1 : Filter
  b2 : Filter
  b3 : Filter
  b4 : Filter
  b5 : Filter
  b6 : Filter
  deriving DecidableEq, Repr

/-- The side a body entered the flap zone from (R116). -/
inductive Side where
  | a
  | b
  | unknown
  deriving DecidableEq, Repr

/-- The passage monitor (7.1). `settleA`, `settleF`, `settleB` are the settle counts; `loiter` the milliseconds since
the loiter timer started. -/
structure Monitor where
  beams : Beams
  zones : Zones
  settleA : Nat
  settleF : Nat
  settleB : Nat
  entrySide : Option Side
  loiter : Option Nat
  deriving DecidableEq, Repr

/-- The flap states (7.2). -/
inductive FlapState where
  | closed
  | opening
  | opened
  | closing
  | stopped
  | fault
  | released
  deriving DecidableEq, Repr

/-- The arbiter's two commands (6.5). -/
inductive FlapCmd where
  | toOpen
  | toClose
  deriving DecidableEq, Repr

/-- What a motion fixed at its start (R119, R123): the duty, the milliseconds left to its timeout, the blanking left, none
when it is over; and whether it is a release motion (R127). -/
structure Motion where
  duty : Nat
  remaining : Nat
  blanking : Option Nat
  release : Bool
  deriving DecidableEq, Repr

/-- A blink generator: its phase and the milliseconds left of it (R129). -/
structure Blink where
  high : Bool
  remaining : Nat
  deriving DecidableEq, Repr

/-- The flap drive (7.2, 7.6). `command` is the command last handed over by the arbiter, `clearing` the clearing
mark of R126, `pause` the retry pause. -/
structure Drive where
  flap : FlapState
  command : FlapCmd
  motion : Option Motion
  retryCount : Nat
  obstructCount : Nat
  closeHold : Bool
  holdTimer : Option Nat
  pause : Option Nat
  clearing : Bool
  openLimit : Filter
  closedLimit : Filter
  lamps : PerEnd LampPair
  bg1 : Blink
  bg2 : Blink
  buzzer : Option Nat
  deriving DecidableEq, Repr

/-! ## Emergency sequencer -/

/-- An amnesty window (8.5). -/
structure Window where
  station : Nat
  fromMinute : Nat
  toMinute : Nat
  deriving DecidableEq, Repr

/-- The stage of a standing emergency (8.1). -/
inductive Stage where
  | releasing
  | released
  deriving DecidableEq, Repr

/-- The emergency sequencer (8.1). `stage` is `none` while no emergency stands; the start stamp is a counter value
and its validity. -/
structure Sequencer where
  stage : Option Stage
  inputMark : Bool
  stationMark : Bool
  releaseTimer : Option Nat
  input : Filter
  filtered : Bool
  settle : Nat
  stamp : Option (Nat × Bool)
  amnesty : List Window
  deriving DecidableEq, Repr

/-! ## Journal and flash store -/

/-- The record kinds (12.4). -/
inductive RecordKind where
  | entry
  | exit
  | retap
  | recovery
  | unconfirmed
  | abandoned
  | denied
  | clone
  | tailgate
  | intrusion
  | loiter
  | fault
  | emergencyStart
  | emergencyEnd
  | tariffActivated
  | timeSet
  | start
  | dropped
  deriving DecidableEq, Repr

/-- The fields a caller hands over with a record (R145, R146); the journal adds sequence and time. -/
structure RecordData where
  kind : RecordKind
  atEnd : Option End := none
  flags : Flags := {}
  card : Option Nat := none
  amount : Option Nat := none
  balance : Option Int := none
  cardSeq : Option Nat := none
  entryStation : Option Nat := none
  reference : Option Nat := none
  oldTime : Option Nat := none
  deriving DecidableEq, Repr

/-- A journal record (9.1). -/
structure Record where
  sequence : Nat
  time : Nat
  data : RecordData
  deriving DecidableEq, Repr

/-- The page states (R147). -/
inductive PageState where
  | erased
  | current
  | written
  | released
  | retired
  deriving DecidableEq, Repr

/-- The journal's working state (9.2 to 9.7). `page` is the CURRENT page, `none` when the scan finds every page
RELEASED (assumption log 31), and `used` how many of its slots are assigned, 64 when there is no page; the head of the write queue is programmed at slot `progSlot` of page `progPage`. `newestProgrammed` is the
sequence R157 clamps a release to. -/
structure Journal where
  lastSeq : Nat
  queue : List Record
  pages : List PageState
  page : Option Nat
  used : Nat
  progPage : Nat
  progSlot : Nat
  free : Nat
  reserved : Nat
  dropped : Nat
  cursor : Nat
  mark : Nat
  newestProgrammed : Nat
  eraseQueue : List Nat
  deriving DecidableEq, Repr

/-- A journal slot in flash that is not blank: a readable record, or torn (R166). -/
inductive Slot where
  | record (r : Record)
  | torn
  deriving DecidableEq, Repr

/-- A tariff area in flash (2.4): the programmed blocks by index, the completion record, the activation marker. -/
structure Area where
  blocks : List (Nat × List Byte)
  completion : Option Completion
  marker : Option Nat
  deriving DecidableEq, Repr

/-- The lasting contents of flash (chapter 10): slots that are not blank by slot number in strictly rising order
(page × 64 + slot), the pages whose release marker is not blank, and the tariff areas. -/
structure Flash where
  slots : List (Nat × Slot)
  releaseMarkers : List Nat
  areaOne : Area
  areaTwo : Area
  deriving DecidableEq, Repr

/-- The run states (R164); HOLDOVER says whether it is one for a halt or for a restart (R173). -/
inductive RunState where
  | starting
  | run
  | holdover (forHalt : Bool)
  | halt
  deriving DecidableEq, Repr

/-- The reset causes. -/
inductive Cause where
  | powerOn
  | resetPin
  | stationRestart
  | powerRestored
  deriving DecidableEq, Repr

/-- The operation in progress (R161). A tariff operation whose entry TARIFF_BEGIN or TARIFF_CANCEL removed is
finished with its result disregarded (R30). -/
inductive FlashOp where
  | record
  | pageRelease (page : Nat)
  | tariff (op : TariffOp) (disregard : Bool)
  deriving DecidableEq, Repr

/-- The flash store's working state (10.1, 10.2) with the supply and the PFW input. -/
structure FlashStore where
  supply : Bool
  run : RunState
  cause : Cause
  busy : Option FlashOp
  pfw : Filter
  deriving DecidableEq, Repr

/-! ## Parameters and pins -/

/-- The service mode (parameter 2). -/
inductive ServiceMode where
  | outOf
  | inService
  deriving DecidableEq, Repr

/-- The aisle mode (parameter 4). -/
inductive AisleMode where
  | normallyClosed
  | normallyOpen
  deriving DecidableEq, Repr

/-- The parameters of R184, in number order. -/
structure Params where
  stationCode : Nat
  serviceMode : ServiceMode
  orientation : End
  aisleMode : AisleMode
  priority : PerEnd Nat
  commitDeadline : Nat
  waitDeadline : Nat
  passageTimeout : Nat
  closeDelay : Nat
  reopenDelay : Nat
  retention : Nat
  settleCount : Nat
  loiterLimit : Nat
  motionTimeout : Nat
  normalDuty : Nat
  thermalDuty : Nat
  blanking : Nat
  threshold : Nat
  bg1High : Nat
  bg1Low : Nat
  bg2High : Nat
  bg2Low : Nat
  buzzerDuration : Nat
  amnestyMargin : Nat
  nearFull : Nat
  deriving DecidableEq, Repr

/-- The inputs no filter of the part holds: the six strap pins, THERM, the reset pin, the current-sense input's next
conversion, and the aisle number latched from the straps at the beginning of STARTING (R181). -/
structure Pins where
  straps : Fin 64
  aisleNumber : Nat
  therm : Bool
  reset : Bool
  current : Nat
  deriving DecidableEq, Repr

end Sys2Proof.Machine
end

