-- ==== Sys2Proof/Machine/Flags.lean ====
section
/-! DEFINITION. Every flag computation the manual gives: the transaction flag byte, the station attention flags and
their mask, and the codes the status payloads carry (12.3, 12.7). -/

namespace Sys2Proof.Machine

/-- A byte from its bits, bit 0 first. -/
def bitsNat : List Bool → Nat
  | [] => 0
  | b :: bs => (if b then 1 else 0) + 2 * bitsNat bs

/-- Bit `i` of a number. -/
def natBit (n i : Nat) : Bool := n / 2 ^ i % 2 == 1

/-- The flag byte of the DECISION and of the journal record (12.3). -/
def Flags.toNat (f : Flags) : Nat :=
  bitsNat [f.overdraft, f.incompleteFee, f.amnesty, f.unknownOrigin, f.sameStation, f.timeSkew,
    f.listUnverified, f.held]

/-- The station attention flags as INFO and EVENTS_CLEAR number them (12.7). -/
def Attention.toNat (a : Attention) : Nat :=
  bitsNat [a.journalNearFull, a.cloneDetected, a.denyGap, a.denyOverflow, a.fault, a.emergency,
    a.tariffActivated, a.timeInvalid, a.collision, a.bcastMissed]

/-- EVENTS_CLEAR: each flag the mask names is cleared; unassigned mask bits are disregarded (R185, R186). -/
def Attention.clear (a : Attention) (mask : Nat) : Attention :=
  { journalNearFull := a.journalNearFull && !natBit mask 0
    cloneDetected := a.cloneDetected && !natBit mask 1
    denyGap := a.denyGap && !natBit mask 2
    denyOverflow := a.denyOverflow && !natBit mask 3
    fault := a.fault && !natBit mask 4
    emergency := a.emergency && !natBit mask 5
    tariffActivated := a.tariffActivated && !natBit mask 6
    timeInvalid := a.timeInvalid && !natBit mask 7
    collision := a.collision && !natBit mask 8
    bcastMissed := a.bcastMissed && !natBit mask 9 }

/-- Grant kinds (12.3). -/
def GrantKind.code : GrantKind → Nat
  | .entry => 1
  | .exit => 2
  | .retap => 3
  | .recovery => 4

/-- A write grant changes the card (1.5). -/
def GrantKind.isWrite : GrantKind → Bool
  | .entry => true
  | .exit => true
  | .retap => false
  | .recovery => false

/-- Refusal reasons (12.3). -/
def Reason.code : Reason → Nat
  | .emergency => 1
  | .outOfService => 2
  | .recordInvalid => 3
  | .cardExhausted => 4
  | .denied => 5
  | .cloneSuspect => 6
  | .alreadyGranted => 7
  | .passback => 8
  | .cardExpired => 9
  | .lowBalance => 10
  | .noEntryRecord => 11
  | .insufficient => 12
  | .aisleBusy => 13

/-- Sub-causes (12.3). -/
def SubCause.code : SubCause → Nat
  | .notConfigured => 1
  | .timeInvalid => 2
  | .noTariff => 3
  | .stationMode => 4
  | .fault => 5
  | .journalFull => 6

/-- The service summary (12.3). -/
def Summary.code : Summary → Nat
  | .inService => 0
  | .emergency => 7
  | .sub c => c.code

/-- Aisle states (12.7). -/
def AisleState.code : AisleState → Nat
  | .idle => 0
  | .serving => 1
  | .violation => 2
  | .emergency => 3
  | .outOfService => 4

/-- The owned direction (12.7). -/
def dirCode : Option Dir → Nat
  | none => 0
  | some .aToB => 1
  | some .bToA => 2

/-- Context states (12.7). -/
def CtxTag.code : CtxTag → Nat
  | .idle => 0
  | .waitAisle => 1
  | .decided => 2

/-- A lamp (12.7). -/
def Lamp.code : Lamp → Nat
  | .off => 0
  | .steady => 1
  | .bg1 => 2
  | .bg2 => 3

/-- An end's two lamps: GO in bits 0–1, STOP in bits 2–3 (12.7). -/
def LampPair.code (l : LampPair) : Nat := l.go.code + 4 * l.stop.code

/-- Status codes of a station reply (R186). -/
def Status.code : Status → Nat
  | .ok => 0
  | .busy => 1
  | .badState => 2
  | .badValue => 3
  | .notReady => 4
  | .unknown => 5

/-- Deny-list states (12.5). -/
def ListState.code : ListState → Nat
  | .empty => 0
  | .loading => 1
  | .complete => 2

/-- Pending states (12.7). -/
def PendingState.code : PendingState → Nat
  | .empty => 0
  | .loading => 1
  | .ready => 2
  | .rejected => 3

/-- Rejection reasons, none 0 (12.9). -/
def rejectCode : Option Reject → Nat
  | none => 0
  | some .flash => 1
  | some .blockSet => 2
  | some .checkMismatch => 3
  | some .headerMismatch => 4
  | some .step => 5
  | some .bands => 6
  | some .range => 7
  | some .noWriteKey => 8

/-- Journal record kinds (12.4). -/
def RecordKind.code : RecordKind → Nat
  | .entry => 1
  | .exit => 2
  | .retap => 3
  | .recovery => 4
  | .unconfirmed => 5
  | .abandoned => 6
  | .denied => 7
  | .clone => 8
  | .tailgate => 9
  | .intrusion => 10
  | .loiter => 11
  | .fault => 12
  | .emergencyStart => 13
  | .emergencyEnd => 14
  | .tariffActivated => 15
  | .timeSet => 16
  | .start => 17
  | .dropped => 18

/-- Reset causes (12.4). -/
def Cause.code : Cause → Nat
  | .powerOn => 1
  | .resetPin => 2
  | .stationRestart => 3
  | .powerRestored => 4

/-- The run state as INFO codes it (12.7); HALT answers no INFO. -/
def RunState.code : RunState → Nat
  | .starting => 0
  | .run => 1
  | .holdover _ => 2
  | .halt => 2

end Sys2Proof.Machine
end

