-- ==== Sys2Proof/Machine/ResetValues.lean ====
section
/-! DEFINITION. The value each block takes at the event that begins STARTING, after every reset cause (R165), each
as its own chapter gives it, and the journal's and flash's contents before anything was ever written. -/

namespace Sys2Proof.Machine

/-- An input filter at rest (R132, R133, R134, R170). -/
def filterReset : Filter := { raw := false, prev := false, accepted := false }

/-- A filter taken as inactive whose raw input keeps its level. -/
def Filter.reset (f : Filter) : Filter := { f with prev := false, accepted := false }

/-- R4: both contexts IDLE, no reservation, no late card. -/
def authReset : AuthUnit :=
  { ctx := { a := .idle, b := .idle }, lateCard := { a := none, b := none } }

/-- R93, and the aisle state at the end of start-up. -/
def arbiterReset : Arbiter :=
  { state := .outOfService, owned := none, reservation := none, credits := [],
    waiting := { a := false, b := false }, lastServed := .b, closeDelay := none, reopenDelay := none,
    attention := false }

/-- R179. -/
def endPortReset : EndPort :=
  { request := none, buffer := none, waiting := [], decisionReady := false, serviceChanged := false,
    enableDecision := false, enableService := false, overrun := false, transfer := none, selectLow := false, dataOut := [] }

/-- A transfer whose select is low when STARTING begins goes on: the READY level of its falling edge stands for R175, and
its outward frame is no longer the response buffer's (assumption log 47). -/
def Transfer.outlasts (t : Transfer) : Transfer := { t with fromBuffer := false, overrunSent := false }

/-- R179: everything a port holds but a transfer in progress; the level of its select line is the lane processor's. -/
def EndPort.restarted (p : EndPort) : EndPort :=
  { endPortReset with transfer := p.transfer.map Transfer.outlasts, selectLow := p.selectLow }

/-- R185: no frame, no reply, the direction line released, the bit period forgotten, all ten flags clear. R185 gives the
receive state no value; the port waits for a break, the model's choice (assumption log 53). -/
def stationReset : StationPort :=
  { receive := .waitBreak, bitRate := none, inbound := none, reply := none, direction := false,
    attention := {}, sent := [] }

/-- The pending tariff EMPTY. -/
def pendingEmpty : Pending :=
  { state := .empty, version := 0, effectiveDay := 0, taken := [], failed := false, endCheck := none,
    reason := none, image := none }

/-- The tariff store before the tariff reload (R185: blocks not yet rebuilt read as their reset values). -/
def tariffReset : TariffStore :=
  { current := none, pendingArea := .one, pending := pendingEmpty, queue := [] }

/-- R91. -/
def denyReset : DenyList :=
  { entries := [], localOrder := [], generation := 0, state := .empty, overflow := false, gap := false,
    job := none }

/-- R132; each beam's raw input keeps its level. -/
def monitorReset (beams : Beams) : Monitor :=
  { beams := { b1 := beams.b1.reset, b2 := beams.b2.reset, b3 := beams.b3.reset, b4 := beams.b4.reset,
               b5 := beams.b5.reset, b6 := beams.b6.reset },
    zones := { zA := false, zF := false, zB := false }, settleA := 0, settleF := 0, settleB := 0,
    entrySide := none, loiter := none }

/-- Beams with no body at them. -/
def beamsClear : Beams :=
  { b1 := filterReset, b2 := filterReset, b3 := filterReset, b4 := filterReset, b5 := filterReset,
    b6 := filterReset }

/-- The OUT_OF_SERVICE row of R130 at one end. -/
def lampsOutOfService : LampPair := { go := .off, stop := .steady }

/-- R133 and R129; the limit inputs keep their raw levels. The flap state, which R133 leaves undefined until the end
of start-up, stands as STOPPED, the state the end of start-up enters. -/
def driveReset (openLimit closedLimit : Filter) : Drive :=
  { flap := .stopped, command := .toClose, motion := none, retryCount := 0, obstructCount := 0,
    closeHold := false, holdTimer := none, pause := none, clearing := false,
    openLimit := openLimit.reset, closedLimit := closedLimit.reset,
    lamps := { a := lampsOutOfService, b := lampsOutOfService },
    bg1 := { high := true, remaining := 250 }, bg2 := { high := true, remaining := 100 }, buzzer := none }

/-- R134; the EMERG input keeps its raw level. -/
def sequencerReset (input : Filter) : Sequencer :=
  { stage := none, inputMark := false, stationMark := false, releaseTimer := none, input := input.reset,
    filtered := false, settle := 0, stamp := none, amnesty := [] }

/-- The journal before its scan (R160 gives the counts that do not come from flash). -/
def journalReset : Journal :=
  { lastSeq := 0, queue := [], pages := List.replicate 128 .erased, page := some 0, used := 0, progPage := 0,
    progSlot := 0, free := 0, reserved := 0, dropped := 0, cursor := 1, mark := 0, newestProgrammed := 0,
    eraseQueue := [] }

/-- The defaults of R184. -/
def paramsReset : Params :=
  { stationCode := 255, serviceMode := .outOf, orientation := .a, aisleMode := .normallyClosed,
    priority := { a := 4, b := 4 }, commitDeadline := 1500, waitDeadline := 3000, passageTimeout := 10,
    closeDelay := 400, reopenDelay := 2000, retention := 240, settleCount := 6, loiterLimit := 4000,
    motionTimeout := 1200, normalDuty := 80, thermalDuty := 40, blanking := 100, threshold := 700,
    bg1High := 25, bg1Low := 25, bg2High := 10, bg2Low := 10, buzzerDuration := 1000, amnestyMargin := 30,
    nearFull := 1024 }

/-- A tariff area with every byte erased. -/
def areaBlank : Area := { blocks := [], completion := none, marker := none }

/-- Flash with every byte erased. -/
def flashBlank : Flash :=
  { slots := [], releaseMarkers := [], areaOne := areaBlank, areaTwo := areaBlank }

end Sys2Proof.Machine
end

