-- ==== Sys2Proof/Machine/State.lean ====
section
/-! DEFINITION. The whole state of the AG4 as plain data, the reasons a step can stop, and the state after reset. -/

namespace Sys2Proof.Machine

/-- The AG4. `commands` the manual gives it wait in `pending`, first in, first out; every other field is a block of
00_scope.md or a line of its direct signal groups. `draws` is the model's own count of free values drawn
(assumption log 5). -/
structure State where
  pending : List Instr
  pins : Pins
  params : Params
  au : AuthUnit
  ports : PerEnd EndPort
  station : StationPort
  time : TimeBase
  tariff : TariffStore
  sightings : List Sighting
  deny : DenyList
  aisle : Arbiter
  monitor : Monitor
  drive : Drive
  emergency : Sequencer
  journal : Journal
  store : FlashStore
  flash : Flash
  draws : Nat
  deriving DecidableEq, Repr

/-- The reasons a step can end in a fault: none. The manual describes no event that stops the AG4 without saying
what it does: a HALT is a run state it leaves again. -/
inductive Fault where
  deriving DecidableEq, Repr

/-- The reasons a step can be refused. -/
inductive Refusal where
  /-- Raised by `exec` alone, for a command that has no meaning in this model yet (none at present). Safe: nothing can
  be proved of such a command's effect. -/
  | notModelled (mnemonic : String)
  deriving DecidableEq, Repr

/-- The AG4 at the event that begins the first STARTING of its life: cause POWER_ON, the backup supply found lost
(R24), every block at its reset value (R165), flash erased, strapped as aisle 1. The assumption log's entries 2 and 3
name the values the manual does not state. -/
def State.reset : State :=
  { pending := [],
    pins := { straps := 1, aisleNumber := 1, therm := false, reset := false, current := 0 },
    params := paramsReset,
    au := authReset,
    ports := { a := endPortReset, b := endPortReset },
    station := stationReset,
    time := { counter := 0, valid := false, day := none },
    tariff := tariffReset,
    sightings := [],
    deny := denyReset,
    aisle := arbiterReset,
    monitor := monitorReset beamsClear,
    drive := driveReset filterReset filterReset,
    emergency := sequencerReset filterReset,
    journal := journalReset,
    store := { supply := true, run := .starting, cause := .powerOn, busy := none, pfw := filterReset },
    flash := flashBlank,
    draws := 0 }

end Sys2Proof.Machine
end

