-- ==== Sys2Proof/Machine/Ops.lean ====
section
/-! DEFINITION. The small operations every block shares: a value for each end, ends and directions, the input
filter, the roles, and what STARTING, RUN and the supply admit. -/

namespace Sys2Proof.Machine

/-! ## A value for each end -/

/-- The value at an end. -/
def PerEnd.get {α : Type} (p : PerEnd α) : End → α
  | .a => p.a
  | .b => p.b

/-- The values with one end's replaced. -/
def PerEnd.set {α : Type} (p : PerEnd α) : End → α → PerEnd α
  | .a, x => { p with a := x }
  | .b, x => { p with b := x }

/-- End A produces passages in direction A→B, end B in B→A. -/
def endDir : End → Dir
  | .a => .aToB
  | .b => .bToA

/-- The end that produces a direction: also the end a body crossing that way came from (R103). -/
def Dir.source : Dir → End
  | .aToB => .a
  | .bToA => .b

/-- The context at an end. -/
def State.ctx (s : State) (e : End) : Ctx := s.au.ctx.get e

/-- The port at an end. -/
def State.port (s : State) (e : End) : EndPort := s.ports.get e

/-- Replace the context at an end. -/
def State.setCtx (s : State) (e : End) (c : Ctx) : State := { s with au := { s.au with ctx := s.au.ctx.set e c } }

/-- Replace the late card at an end. -/
def State.setLateCard (s : State) (e : End) (c : Option Nat) : State :=
  { s with au := { s.au with lateCard := s.au.lateCard.set e c } }

/-- Replace the port at an end. -/
def State.setPort (s : State) (e : End) (p : EndPort) : State := { s with ports := s.ports.set e p }

/-- Whether a context is outside IDLE. -/
def Ctx.live : Ctx → Bool
  | .idle => false
  | .waitAisle _ _ => true
  | .decided _ _ => true

/-- The context's transaction. -/
def Ctx.txn : Ctx → Option Txn
  | .idle => none
  | .waitAisle t _ => some t
  | .decided t _ => some t

/-- The context's state as STATUS_REPORT names it. -/
def Ctx.tag : Ctx → CtxTag
  | .idle => .idle
  | .waitAisle _ _ => .waitAisle
  | .decided _ _ => .decided

/-! ## Run state -/

/-- The part is powered and in RUN: the one run state that takes requests and moves the aisle (R164). -/
def State.running (s : State) : Bool := s.store.supply && s.store.run == .run

/-- The part is powered and not in HALT: its ports take transfers and frames (R164). -/
def State.listening (s : State) : Bool := s.store.supply && s.store.run != .halt

/-- Set station attention flags by an update of the ten. -/
def State.attend (s : State) (f : Attention → Attention) : State :=
  { s with station := { s.station with attention := f s.station.attention } }

/-- A free value (assumption log 5): the next outcome the manual leaves open. -/
def State.draw (s : State) : Bool × State := (Config.freeBool s.draws, { s with draws := s.draws + 1 })

/-! ## Filters (R114) -/

/-- One millisecond's sample: accepted when it equals the previous raw sample, and in either case the previous raw
sample of the next. -/
def Filter.sample (f : Filter) : Filter :=
  { f with prev := f.raw, accepted := if f.raw == f.prev then f.raw else f.accepted }

/-- A filter that has accepted a level. -/
def filterAt (level : Bool) : Filter := { raw := level, prev := level, accepted := level }

/-! ## Roles and modes -/

/-- The role of an end, from the orientation parameter (1.2). -/
def State.role (s : State) (e : End) : Role := if s.params.orientation == e then .entry else .exit

/-- Whether the strapped aisle number or the station code leaves the aisle unconfigured (R6, row 2). -/
def State.unconfigured (s : State) : Bool :=
  s.params.stationCode == 255 || s.pins.aisleNumber == 0 || s.pins.aisleNumber == 63

/-- The flap drive is in FAULT, or in the clearing motion that counts as FAULT (R126). -/
def Drive.faulted (d : Drive) : Bool := d.flap == .fault || d.clearing

/-- The aisle is OUT_OF_SERVICE by a flap FAULT (R6, R126). -/
def State.faultOutOfService (s : State) : Bool := s.aisle.state == .outOfService && s.drive.faulted

/-- All three zones clear. -/
def allClear (z : Zones) : Bool := !z.zA && !z.zF && !z.zB

end Sys2Proof.Machine
end

