-- ==== Sys2Proof/Machine/Drive.lean ====
section
/-! DEFINITION. Chapter 7's flap drive: motions, the drive's own closing test, the arbiter's command, the lamps. -/

namespace Sys2Proof.Machine

/-- The close hold and its timer are cleared. -/
def Drive.dropHold (d : Drive) : Drive := { d with closeHold := false, holdTimer := none }

/-- The arbiter hands over a command; one equal to the command held changes nothing, and an OPEN taken clears the close
hold. A clearing motion ignores it, and a retry pause takes it only at its end (R120, R121, R124, R126). -/
def Drive.take (d : Drive) (c : FlapCmd) : Drive :=
  if d.command = c then d
  else if c = .toOpen ∧ d.clearing = false ∧ d.pause = none then { d.dropHold with command := c }
  else { d with command := c }

/-- Hand the drive a command. -/
def State.command (s : State) (c : FlapCmd) : State := { s with drive := s.drive.take c }

/-- The command the arbiter gives on taking the aisle back into SERVING or IDLE: what the aisle mode requires (R106,
R108, R109; assumption log 17). -/
def State.modeCommand (s : State) : FlapCmd :=
  match s.params.aisleMode with
  | .normallyOpen => .toOpen
  | .normallyClosed => if s.aisle.credits.isEmpty then .toClose else .toOpen

/-- The drive reports that the fault has cleared: the arbiter leaves OUT_OF_SERVICE (R112). With the service mode OUT and no
reservation held the aisle stays OUT_OF_SERVICE, and R112 names no command for it: none is handed over, so the drive follows
the command recorded in FAULT, the model's choice (assumption log 52). -/
def State.faultCleared (s : State) : State :=
  if s.aisle.state = .outOfService then
    if s.aisle.reservation.isSome then
      { s with aisle := { s.aisle with state := .serving } }.command s.modeCommand
    else if s.params.serviceMode = .inService then
      { s with aisle := { s.aisle with state := .idle, owned := none } }.command s.modeCommand
    else { s with aisle := { s.aisle with owned := none } }
  else s

/-- The drive comes to rest at a limit. Reaching the closed limit with the clearing mark set clears the fault (R126), also
for a drive that lost its limit with the mark set and that the closed limit reaches with no motion running, where R126 names
the clearing motion alone (assumption log 45); reaching the open limit in a release enters RELEASED and stage 3 (R127,
R138). -/
def State.restAt (s : State) (l : Limit) : State :=
  match l with
  | .openLimit =>
    if (s.drive.motion.map Motion.release).getD false then
      { s with
        drive := { s.drive with flap := .released, motion := none, obstructCount := 0 }
        emergency := { s.emergency with stage := s.emergency.stage.map fun _ => .released } }
    else { s with drive := { s.drive with flap := .opened, motion := none, obstructCount := 0 } }
  | .closedLimit =>
    let s1 := { s with drive := { s.drive with flap := .closed, motion := none, obstructCount := 0, clearing := false } }
    if s.drive.clearing then s1.faultCleared else s1

/-- A motion ends at its limit, which resets the retry count (R119). -/
def State.motionDone (s : State) (l : Limit) : State :=
  { s with drive := { s.drive with retryCount := 0 } }.restAt l

/-- The duty of a motion begun now (R119). -/
def State.motionDuty (s : State) : Nat :=
  if s.pins.therm then min s.params.normalDuty s.params.thermalDuty else s.params.normalDuty

/-- The timeout of a motion begun now (R119). -/
def State.motionTimeoutNow (s : State) : Nat :=
  if s.pins.therm then 2 * s.params.motionTimeout else s.params.motionTimeout

/-- A motion toward a limit begins: it fixes its duty, timeout and blanking, and ends at once when begun at its limit
(R119, R123). The limits' filters stay as they are: a motion leaves the other limit when that input's accepted value
changes. -/
def State.beginMotion (s : State) (toward : Limit) (release : Bool) : State :=
  let m : Motion :=
    { duty := s.motionDuty, remaining := s.motionTimeoutNow, blanking := some s.params.blanking, release := release }
  match toward with
  | .openLimit =>
    let s1 := { s with drive := { s.drive with
      flap := .opening, motion := some m, obstructCount := 0, pause := none } }
    if s.drive.openLimit.accepted then s1.motionDone .openLimit else s1
  | .closedLimit =>
    let s1 := { s with drive := { s.drive with
      flap := .closing, motion := some m, obstructCount := 0, pause := none } }
    if s.drive.closedLimit.accepted then s1.motionDone .closedLimit else s1

/-- The command the drive follows: a clearing motion takes it as CLOSE (R126). -/
def Drive.followed (d : Drive) : FlapCmd := if d.clearing then .toClose else d.command

/-- R120: the flap zone is clear and the close hold is not set. -/
def State.mayClose (s : State) : Bool := !s.monitor.zones.zF && !s.drive.closeHold

/-- The closing motion of R120, when it is allowed. -/
def State.closeIfAllowed (s : State) : State := if s.mayClose then s.beginMotion .closedLimit false else s

/-- The drive takes its command in its flap state, as R121's table gives, and makes the closing test of R120; a
clearing drive in FAULT closes as soon as R120 allows (R126).

The close hold goes when an OPEN is handed over or at the end of a retry pause; R120 does not say whether it goes when
an OPEN held through a clearing motion is followed at last. Here it stays until its timer ends it: a clearing drive
STOPPED with the hold set that returns to CLOSED by its limit (assumption log 45) opens for such an OPEN and keeps the
hold, the model's choice (assumption log 42). -/
def State.drivePass (s : State) : State :=
  match s.drive.flap with
  | .closed => if s.drive.followed = .toOpen then s.beginMotion .openLimit false else s
  | .opening =>
    if (s.drive.motion.map Motion.release).getD false then s
    else if s.drive.followed = .toClose then s.closeIfAllowed else s
  | .opened => if s.drive.followed = .toClose then s.closeIfAllowed else s
  | .closing => if s.drive.followed = .toOpen then s.beginMotion .openLimit false else s
  | .stopped =>
    if s.drive.pause.isSome then s
    else if s.drive.followed = .toOpen then { s with drive := s.drive.dropHold }.beginMotion .openLimit false
    else s.closeIfAllowed
  | .fault => if s.drive.clearing then s.closeIfAllowed else s
  | .released => s

/-- A closing motion reverses into an opening one with the close hold, whose timer runs while Z_F is clear (R120,
R124). -/
def State.reverse (s : State) : State :=
  { s with drive := { s.drive with
    closeHold := true
    holdTimer := if s.monitor.zones.zF then none else some s.params.closeDelay } }.beginMotion .openLimit false

/-- The drive is told of a Z_F change (R120). -/
def State.driveZone (s : State) (occupied : Bool) : State :=
  if occupied then
    let s1 := { s with drive := { s.drive with holdTimer := none } }
    if s.drive.flap = .closing then s1.reverse else s1
  else if s.drive.closeHold then { s with drive := { s.drive with holdTimer := some s.params.closeDelay } }
  else s

/-- The emergency sequencer hands over a release (R127). -/
def State.beginRelease (s : State) : State :=
  let s1 := { s with drive := { s.drive with closeHold := false, holdTimer := none, clearing := false, pause := none } }
  if s.drive.flap = .fault then s1 else s1.beginMotion .openLimit true

/-- The sequencer ends the release: a RELEASED drive is OPEN, a release motion an opening motion (R127). -/
def State.endRelease (s : State) : State :=
  { s with drive := { s.drive with
    flap := if s.drive.flap = .released then .opened else s.drive.flap
    motion := s.drive.motion.map fun m => { m with release := false } } }

/-! ## Lamps (R130) -/

/-- Both lamps of an end. -/
def lampPair (go stop : Lamp) : LampPair := { go := go, stop := stop }

/-- The lamps of the end named, by R130's table. -/
def State.lampsAt (s : State) (e : End) : LampPair :=
  let shown := s.aisle.state == .idle || s.aisle.state == .serving || s.aisle.state == .outOfService
  if s.aisle.attention && shown then lampPair .off .bg1
  else
    match s.aisle.state with
    | .idle => lampPair .steady .off
    | .serving =>
      if s.aisle.owned = some (endDir e) then lampPair (if s.aisle.credits.isEmpty then .bg1 else .steady) .off
      else lampPair .off .steady
    | .violation => lampPair .off .bg2
    | .emergency => lampPair (if s.drive.flap = .released then .steady else .bg1) .off
    | .outOfService => lampPair .off .steady

/-- The lamps change at the event (R130). -/
def State.showLamps (s : State) : State :=
  { s with drive := { s.drive with lamps := { a := s.lampsAt .a, b := s.lampsAt .b } } }

/-- Whether a lamp is lit now (R129). -/
def Drive.lit (d : Drive) : Lamp → Bool
  | .off => false
  | .steady => true
  | .bg1 => d.bg1.high
  | .bg2 => d.bg2.high

end Sys2Proof.Machine
end

