-- ==== Sys2Proof/Machine/Operands.lean ====
section
/-! DEFINITION. Chapter 12: the bytes of every frame, image and record, both ways, and the five checks. -/

namespace Sys2Proof.Machine

/-! ## Numbers in bytes (R186) -/

/-- The `n` bytes of a number, most significant first. -/
def beBytes : Nat → Nat → List Byte
  | 0, _ => []
  | n + 1, v => BitVec.ofNat 8 (v / 256 ^ n) :: beBytes n v

/-- The number some bytes spell, most significant first. -/
def beNat (bs : List Byte) : Nat := bs.foldl (fun n b => n * 256 + b.toNat) 0

/-- A balance in its three bytes of two's complement. -/
def balanceBytes (v : Int) : List Byte := beBytes 3 (v % 16777216).toNat

/-- The balance three bytes spell. -/
def balanceOf (bs : List Byte) : Int :=
  let n := beNat bs
  if n < 8388608 then (n : Int) else (n : Int) - 16777216

/-- `width` bytes from an offset. -/
def field (bs : List Byte) (offset width : Nat) : List Byte := (bs.drop offset).take width

/-- The number `width` bytes at an offset spell. -/
def numField (bs : List Byte) (offset width : Nat) : Nat := beNat (field bs offset width)

/-! ## The checks (R187) -/

/-- One shift of a CRC-8 register with generator x^8 + x^2 + x + 1. -/
def crc8Shift (c : Nat) : Nat := if c < 128 then 2 * c else Nat.xor (2 * c - 256) 7

/-- One shift of a CRC-16 register with generator x^16 + x^12 + x^5 + 1. -/
def crc16Shift (c : Nat) : Nat := if c < 32768 then 2 * c else Nat.xor (2 * c - 65536) 4129

/-- `n` shifts. -/
def shifts (f : Nat → Nat) : Nat → Nat → Nat
  | 0, c => c
  | n + 1, c => shifts f n (f c)

/-- The CRC-8 of an end-port frame or a station frame, starting at 0. -/
def crc8 (bs : List Byte) : Nat := bs.foldl (fun c b => shifts crc8Shift 8 (Nat.xor c b.toNat)) 0

/-- The CRC-16 of R2, starting at all ones. -/
def crc16 (bs : List Byte) : Nat :=
  bs.foldl (fun c b => shifts crc16Shift 8 (Nat.xor c (b.toNat * 256))) 65535

/-- A byte from a number, its low eight bits. -/
def byte (n : Nat) : Byte := BitVec.ofNat 8 n

/-! ## Card image and decision (12.3) -/

/-- Offsets 0–27 of the card image: what the record check covers. -/
def imageBody (i : CardImage) : List Byte :=
  beBytes 8 i.card ++ beBytes 1 i.cls ++ beBytes 1 i.state ++ balanceBytes i.balance ++ beBytes 2 i.sequence
    ++ beBytes 1 i.entryStation ++ beBytes 4 i.entryTime ++ beBytes 1 i.entryAisle ++ beBytes 2 i.dayNumber
    ++ beBytes 2 i.daySpend ++ beBytes 2 i.expiryDay ++ beBytes 1 i.keyIndex

/-- The 30 bytes of a card image. -/
def imageBytes (i : CardImage) : List Byte := imageBody i ++ beBytes 2 i.check

/-- The card image 30 bytes spell. -/
def imageOf (bs : List Byte) : CardImage :=
  { card := numField bs 0 8, cls := numField bs 8 1, state := numField bs 9 1,
    balance := balanceOf (field bs 10 3), sequence := numField bs 13 2, entryStation := numField bs 15 1,
    entryTime := numField bs 16 4, entryAisle := numField bs 20 1, dayNumber := numField bs 21 2,
    daySpend := numField bs 23 2, expiryDay := numField bs 25 2, keyIndex := numField bs 27 1,
    check := numField bs 28 2 }

/-- The record check of an image under a key (R2, R187). -/
def recordCheck (key : List Byte) (i : CardImage) : Nat := crc16 (key ++ imageBody i)

/-- A decision after its port byte (12.3). -/
def decisionBytes : Decision → List Byte
  | .refused r sub =>
    [byte 0, byte r.code, byte (match sub with | none => 0 | some c => c.code)] ++ beBytes 2 0 ++ [byte 0]
  | .granted k charge flags image =>
    [byte 1, byte k.code, byte 0] ++ beBytes 2 charge ++ [byte flags.toNat]
      ++ (match image with | none => [] | some i => imageBytes i)

/-! ## End-port frames (12.2, 12.9) -/

/-- STATUS_REPORT after its port byte (12.7). -/
def statusBytes (r : StatusReport) : List Byte :=
  [byte r.context.code, byte r.aisle.code, byte (dirCode r.owned), byte r.credits, byte r.lamps.code,
    byte r.summary.code, byte (bitsNat [r.decisionReady, r.serviceChanged, r.overrun])]

/-- The kind byte of a response (12.9). -/
def Response.kind : Response → Nat
  | .decision _ => 129
  | .pending => 130
  | .sequenceError => 131
  | .commitDone => 132
  | .commitLate => 133
  | .noContext => 134
  | .abortDone => 135
  | .statusReport _ => 136
  | .enablesSet _ _ => 137
  | .badLength => 138
  | .frameError => 139
  | .unknownRequest => 140

/-- A response's payload after its port byte (12.9). -/
def Response.body : Response → List Byte
  | .decision d => decisionBytes d
  | .pending => []
  | .sequenceError => []
  | .commitDone => []
  | .commitLate => []
  | .noContext => []
  | .abortDone => []
  | .statusReport r => statusBytes r
  | .enablesSet d v => [byte (bitsNat [d, v])]
  | .badLength => []
  | .frameError => []
  | .unknownRequest => []

/-- An end-port frame: kind, length, payload, CRC-8 (12.2). -/
def endFrame (kind : Nat) (payload : List Byte) : List Byte :=
  let head := byte kind :: byte payload.length :: payload
  head ++ [byte (crc8 head)]

/-- A response's whole frame with its port byte (R186). -/
def responseFrame (overrun : Bool) (r : Response) : List Byte :=
  endFrame r.kind (byte (bitsNat [overrun]) :: r.body)

/-- The empty frame (R174). -/
def emptyFrame : List Byte := endFrame 0 []

/-- What the port makes of an inward frame, orders 1 and 3 to 7 of R175. -/
inductive Inward where
  | nothing
  | error (r : Response)
  | request (r : EndRequest)
  deriving DecidableEq, Repr

/-- Orders 5 to 7 of R175: the kind, then the length its kind requires. -/
def judgeEndRequest (kind : Nat) (payload : List Byte) : Inward :=
  match kind with
  | 1 => if payload.length = 30 then .request (.present (imageOf payload)) else .error .badLength
  | 2 => if payload.length = 8 then .request (.commit (beNat payload)) else .error .badLength
  | 3 => if payload.length = 8 then .request (.abort (beNat payload)) else .error .badLength
  | 4 => if payload.length = 0 then .request .status else .error .badLength
  | 5 => if payload.length = 1 then .request (.eventsEnable (payload.getD 0 0)) else .error .badLength
  | _ => .error .unknownRequest

/-- R175 but for order 2: kind 0 first, then the length byte, the bytes clocked and the check, then the request. A transfer
in which no whole byte was clocked in has no kind byte, and counts as kind 0 (assumption log 8). -/
def judgeInward (bs : List Byte) : Inward :=
  if numField bs 0 1 = 0 then .nothing
  else if 120 < numField bs 1 1 then .error .badLength
  else
    let n := numField bs 1 1
    if bs.length < n + 3 ∨ numField bs (n + 2) 1 ≠ crc8 (bs.take (n + 2)) then .error .frameError
    else judgeEndRequest (numField bs 0 1) (field bs 2 n)

/-! ## Station frames (12.2, 12.5, 12.9) -/

/-- The station requests of R183 with their payloads. -/
inductive StationRequest where
  | info
  | timeSet (seconds : Nat)
  | paramSet (number value : Nat)
  | paramGet (number : Nat)
  | modeSet (mode : Nat)
  | faultClear
  | emergencySet
  | emergencyClear
  | amnestyAdd (station fromMinute toMinute : Nat)
  | denyReload (generation : Nat)
  | denyAdd (generation : Nat) (items : List DenyItem)
  | denyRemove (generation : Nat) (cards : List Nat)
  | denyComplete (generation : Nat)
  | denyInfo (card : Option Nat)
  | tariffBegin (version effectiveDay : Nat)
  | tariffBlock (index : Nat) (data : List Byte)
  | tariffEnd (check : Nat)
  | tariffCancel
  | tariffInfo
  | journalInfo
  | journalRead (start count : Nat)
  | journalReadNext (count : Nat)
  | journalRelease (limit : Nat)
  | eventsClear (mask : Nat)
  | restart
  deriving DecidableEq, Repr

/-- The kind byte of a station request (12.9). -/
def StationRequest.kind : StationRequest → Nat
  | .info => 1
  | .timeSet _ => 2
  | .paramSet _ _ => 3
  | .paramGet _ => 4
  | .modeSet _ => 5
  | .faultClear => 6
  | .emergencySet => 7
  | .emergencyClear => 8
  | .amnestyAdd _ _ _ => 9
  | .denyReload _ => 10
  | .denyAdd _ _ => 11
  | .denyRemove _ _ => 12
  | .denyComplete _ => 13
  | .denyInfo _ => 14
  | .tariffBegin _ _ => 15
  | .tariffBlock _ _ => 16
  | .tariffEnd _ => 17
  | .tariffCancel => 18
  | .tariffInfo => 19
  | .journalInfo => 20
  | .journalRead _ _ => 21
  | .journalReadNext _ => 22
  | .journalRelease _ => 23
  | .eventsClear _ => 24
  | .restart => 25

/-- The kinds R183's table allows broadcast. -/
def broadcastKind (kind : Nat) : Bool := [2, 5, 7, 8, 9, 10, 11, 12, 13].contains kind

/-- Successive pieces of `width` bytes, as many as named. -/
def pieces (width : Nat) : Nat → List Byte → List (List Byte)
  | 0, _ => []
  | n + 1, bs => bs.take width :: pieces width n (bs.drop width)

/-- What the port makes of an accepted frame's kind and payload length (R183, R86). -/
inductive Decoded where
  | unknownKind
  | badLength
  | request (r : StationRequest)
  deriving DecidableEq, Repr

/-- A request when the payload has the length its kind requires. -/
def Decoded.sized (payload : List Byte) (n : Nat) (r : StationRequest) : Decoded :=
  if payload.length = n then .request r else .badLength

/-- The station request a kind byte and a payload spell (12.5, 12.9). -/
def decodeStation (kind : Nat) (p : List Byte) : Decoded :=
  match kind with
  | 1 => .sized p 0 .info
  | 2 => .sized p 4 (.timeSet (beNat p))
  | 3 => .sized p 3 (.paramSet (numField p 0 1) (numField p 1 2))
  | 4 => .sized p 1 (.paramGet (beNat p))
  | 5 => .sized p 1 (.modeSet (beNat p))
  | 6 => .sized p 0 .faultClear
  | 7 => .sized p 0 .emergencySet
  | 8 => .sized p 0 .emergencyClear
  | 9 => .sized p 9 (.amnestyAdd (numField p 0 1) (numField p 1 4) (numField p 5 4))
  | 10 => .sized p 2 (.denyReload (beNat p))
  | 11 =>
    if p.length < 3 then .badLength
    else .sized p (3 + 9 * numField p 2 1)
      (.denyAdd (numField p 0 2)
        ((pieces 9 (numField p 2 1) (p.drop 3)).map fun e =>
          { card := numField e 0 8, reason := numField e 8 1 }))
  | 12 =>
    if p.length < 3 then .badLength
    else .sized p (3 + 8 * numField p 2 1)
      (.denyRemove (numField p 0 2) ((pieces 8 (numField p 2 1) (p.drop 3)).map beNat))
  | 13 => .sized p 2 (.denyComplete (beNat p))
  | 14 => if p.length = 0 then .request (.denyInfo none) else .sized p 8 (.denyInfo (some (beNat p)))
  | 15 => .sized p 4 (.tariffBegin (numField p 0 2) (numField p 2 2))
  | 16 => .sized p 65 (.tariffBlock (numField p 0 1) (p.drop 1))
  | 17 => .sized p 2 (.tariffEnd (beNat p))
  | 18 => .sized p 0 .tariffCancel
  | 19 => .sized p 0 .tariffInfo
  | 20 => .sized p 0 .journalInfo
  | 21 => .sized p 5 (.journalRead (numField p 0 4) (numField p 4 1))
  | 22 => .sized p 1 (.journalReadNext (beNat p))
  | 23 => .sized p 4 (.journalRelease (beNat p))
  | 24 => .sized p 2 (.eventsClear (beNat p))
  | 25 => .sized p 0 .restart
  | _ => .unknownKind

/-- The answer OK with a payload. -/
def okWith (payload : List Byte) : Answer := { status := .ok, payload := payload }

/-- An answer with no payload. -/
def bare (status : Status) : Answer := { status := status, payload := [] }

/-- The bytes of a station reply (R182, 12.2). -/
def replyBytes (aisleNumber : Nat) (r : Reply) : List Byte :=
  let head := [byte aisleNumber, byte r.kind, byte r.status.code, byte r.payload.length] ++ r.payload
  head ++ [byte (crc8 head)]

/-! ## Journal record (12.4) -/

/-- The code of a record's end (12.4). -/
def endCode : Option End → Nat
  | none => 0
  | some .a => 1
  | some .b => 2

/-- Offsets 0–29 of a slot. -/
def recordBody (r : Record) : List Byte :=
  let d := r.data
  beBytes 4 r.sequence ++ [byte (d.kind.code + 32 * endCode d.atEnd)] ++ beBytes 4 r.time ++ [byte d.flags.toNat]
    ++ [byte (bitsNat [d.card.isSome, d.amount.isSome, d.balance.isSome, d.cardSeq.isSome,
          d.entryStation.isSome, d.reference.isSome, d.oldTime.isSome])]
    ++ (match d.oldTime with
        | some t => beBytes 4 t ++ beBytes 4 0
        | none => beBytes 8 (d.card.getD 0))
    ++ beBytes 2 (d.amount.getD 0) ++ balanceBytes (d.balance.getD 0) ++ beBytes 2 (d.cardSeq.getD 0)
    ++ beBytes 4 (match d.entryStation with
        | some e => e
        | none => d.reference.getD 0)

/-- The 32 bytes of a slot, slot check included (R187). -/
def recordBytes (r : Record) : List Byte :=
  let body := recordBody r
  body ++ beBytes 2 (crc16 body)

/-- The payload of an OK reply to JOURNAL_READ and JOURNAL_READ_NEXT (12.4). -/
def recordsPayload (rs : List Record) : List Byte := byte rs.length :: (rs.map recordBytes).flatten

end Sys2Proof.Machine
end

