-- ==== Sys2Proof/Machine/Journal.lean ====
section
/-! DEFINITION. Chapter 9: slots, counts, reservations, appends, the full and near-full states, reading, release. -/

namespace Sys2Proof.Machine

/-! ## Counts (R147 to R153) -/

/-- The largest journal sequence (9.1). -/
def maxSequence : Nat := 4294967295

/-- The unreserved pool (R147). -/
def Journal.pool (j : Journal) : Nat := j.free - j.reserved

/-- The sequences not yet taken (R149). -/
def Journal.sequencesLeft (j : Journal) : Nat := maxSequence - j.lastSeq

/-- R148: whether a context reservation is granted. -/
def Journal.canReserve (j : Journal) : Bool :=
  decide (32 < j.pool) && decide (j.queue.length + j.reserved < 16) && decide (j.reserved < j.sequencesLeft)

/-- R149, R150: whether `n` unreserved records find slots, write-queue places and sequences. -/
def Journal.room (j : Journal) (n : Nat) : Bool :=
  decide (n ≤ j.pool) && decide (j.queue.length + j.reserved + n ≤ 16)
    && decide (j.reserved + n ≤ j.sequencesLeft)

/-- The journal's service state FULL (R152). -/
def Journal.full (j : Journal) : Bool := decide (j.pool ≤ 32) || decide (j.sequencesLeft ≤ j.reserved)

/-- Take a context reservation. -/
def Journal.reserve (j : Journal) : Journal := { j with reserved := j.reserved + 1 }

/-- Release a context reservation: it lowers the reserved count and changes nothing else (R148). -/
def Journal.release (j : Journal) : Journal := { j with reserved := j.reserved - 1 }

/-- A dropped record is counted, the count saturating (R150). -/
def Journal.drop (j : Journal) : Journal := { j with dropped := min 65535 (j.dropped + 1) }

/-- R153: an event that leaves the free count at or below the threshold sets JOURNAL_NEAR_FULL. -/
def State.noteNearFull (s : State) : State :=
  if s.journal.free ≤ s.params.nearFull then s.attend fun a => { a with journalNearFull := true } else s

/-! ## Pages (R147, R158) -/

/-- The page after `p` in the ring. -/
def pageAfter (p : Nat) : Nat := (p + 1) % 128

/-- The first page after `p` in ring order that is not RETIRED, looking at most `n` pages on. -/
def nextPage (pages : List PageState) : Nat → Nat → Nat
  | 0, p => p
  | n + 1, p => if pages.getD (pageAfter p) .erased = .retired then nextPage pages n (pageAfter p) else pageAfter p

/-- The page the ring is followed from: the CURRENT page, and with none the last, so that page 0 comes first
(assumption log 31). -/
def Journal.ringBase (j : Journal) : Nat := j.page.getD 127

/-- The page states once the CURRENT page, if there is one, has no slot left. -/
def Journal.fullPage (j : Journal) : List PageState :=
  match j.page with
  | some p => j.pages.set p .written
  | none => j.pages

/-- Assign the next slot of the CURRENT page; a page with none left becomes WRITTEN and the write position moves on
(R147), into whatever page is next and not RETIRED (assumption log 48). The answer says whether it moved into a new
page. -/
def Journal.assignSlot (j : Journal) : Bool × Journal :=
  if j.used < 64 then (false, { j with used := j.used + 1, free := j.free - 1 })
  else
    let p := nextPage j.pages 128 j.ringBase
    (true, { j with pages := j.fullPage.set p .current, page := some p, used := 1, free := j.free - 1 })

/-- The page of a slot number. -/
def slotPage (slot : Nat) : Nat := slot / 64

/-- The records programmed in a list of slots. -/
def recordsIn (slots : List (Nat × Slot)) : List Record :=
  slots.filterMap fun x => match x.2 with
    | .record r => some r
    | .torn => none

/-- The highest journal sequence among some records, 0 when there are none. -/
def highest (rs : List Record) : Nat := rs.foldl (fun m r => max m r.sequence) 0

/-- The slots of one page that are not blank. -/
def Flash.pageSlots (f : Flash) (p : Nat) : List (Nat × Slot) := f.slots.filter fun x => slotPage x.1 == p

/-- Whether a queued record's slot is assigned in page `p`: the pages from the one the head record goes to up to the
CURRENT one. -/
def Journal.awaited (j : Journal) (p : Nat) : Bool :=
  !j.queue.isEmpty &&
    (let first := if j.progSlot < 64 then j.progPage else nextPage j.pages 128 j.progPage
     decide ((p + 128 - first) % 128 ≤ (j.ringBase + 128 - first) % 128))

/-- R158: a WRITTEN page whose slots hold no sequence above the mark and which does not hold the newest record: the last
one appended while it waits, else the highest sequence still programmed (assumption log 50). -/
def releasable (j : Journal) (f : Flash) (p : Nat) : Bool :=
  j.pages.getD p .erased == .written && !j.awaited p
    && (let rs := recordsIn (f.pageSlots p)
        decide (highest rs ≤ j.mark)
          && !(j.queue.isEmpty && !rs.isEmpty && highest rs == highest (recordsIn f.slots)))

/-- The ring's pages from the one after `p` round to `p`. -/
def ringFrom (p : Nat) : List Nat := (List.range 128).map fun i => (p + 1 + i) % 128

/-- R158: every page found releasable becomes RELEASED, in ring order from the oldest, and joins the erase queue. -/
def State.releasePages (s : State) : State :=
  let ps := (ringFrom s.journal.ringBase).filter (releasable s.journal s.flash)
  { s with journal := { s.journal with
      pages := ps.foldl (fun l p => l.set p .released) s.journal.pages
      eraseQueue := s.journal.eraseQueue ++ ps } }

/-! ## Appending (R145, R149, R150) -/

/-- Append a record that has its room: the next sequence, a slot, the tail of the write queue. -/
def State.pushRecord (s : State) (d : RecordData) : State :=
  let r : Record := { sequence := s.journal.lastSeq + 1, time := s.time.counter, data := d }
  let assigned := s.journal.assignSlot
  let s1 := { s with journal := { assigned.2 with lastSeq := r.sequence, queue := assigned.2.queue ++ [r] } }
  (if assigned.1 then s1.releasePages else s1).noteNearFull

/-- The DROPPED record carrying the count, after which the count is 0 (R150). -/
def State.pushDropped (s : State) : State :=
  let s1 := s.pushRecord { kind := .dropped, reference := some s.journal.dropped }
  { s1 with journal := { s1.journal with dropped := 0 } }

/-- An unreserved append, preceded by DROPPED when records were lost, or dropped itself (R149, R150). -/
def State.append (s : State) (d : RecordData) : State :=
  if s.journal.dropped = 0 then
    if s.journal.room 1 then s.pushRecord d else { s with journal := s.journal.drop }
  else if s.journal.room 2 then s.pushDropped.pushRecord d
  else { s with journal := s.journal.drop }

/-- A reserved append: into its context's reservation, preceded by DROPPED when there is room for that (R149, R150).
When the last sequence has been taken the journal takes no further append. -/
def State.appendReserved (s : State) (d : RecordData) : State :=
  let s1 := if s.journal.dropped ≠ 0 ∧ s.journal.room 1 = true then s.pushDropped else s
  let s2 := if s1.journal.sequencesLeft = 0 then s1 else s1.pushRecord d
  { s2 with journal := s2.journal.release }

/-! ## Reading (R154 to R157) -/

/-- The records above the collected-through mark, programmed or waiting (9.6). -/
def State.readable (s : State) : List Record :=
  (recordsIn s.flash.slots ++ s.journal.queue).filter fun r => decide (s.journal.mark < r.sequence)

/-- Insert a record in sequence order. -/
def insertRecord (r : Record) : List Record → List Record
  | [] => [r]
  | x :: xs => if r.sequence ≤ x.sequence then r :: x :: xs else x :: insertRecord r xs

/-- Records in sequence order. -/
def sortRecords (rs : List Record) : List Record := rs.foldr insertRecord []

/-- The oldest uncollected sequence (9.6). One more than 4,294,967,295 has no place in JOURNAL_INFO's four bytes, which
carry its low 32 bits (assumption log 49). -/
def State.oldestUncollected (s : State) : Nat :=
  match sortRecords s.readable with
  | [] => s.journal.lastSeq + 1
  | r :: _ => r.sequence

/-- The first `n` readable records whose sequences are at least `start` (R155). -/
def State.readFrom (s : State) (start n : Nat) : List Record :=
  (sortRecords (s.readable.filter fun r => decide (start ≤ r.sequence))).take n

/-- Where the read cursor goes (R155). -/
def State.cursorAfter (s : State) (start n : Nat) : Nat :=
  match (s.readFrom start n).getLast? with
  | some r => r.sequence + 1
  | none => max start s.oldestUncollected

/-- R157: the mark moves up to the limit, clamped to the newest programmed record, and R158 looks at the pages. -/
def State.releaseTo (s : State) (limit : Nat) : State :=
  let l := min limit s.journal.newestProgrammed
  if s.journal.mark < l then { s with journal := { s.journal with mark := l } }.releasePages else s

end Sys2Proof.Machine
end

