-- ==== Sys2Proof/Machine/Ports.lean ====
section
/-! DEFINITION. Chapter 11, the end ports' side that other blocks reach: the response path, the READY and ATTN lines
and the service summary. -/

namespace Sys2Proof.Machine

/-- READY (R176): no request in process, the waiting list empty, and the run state RUN. -/
def State.ready (s : State) (e : End) : Bool :=
  s.running && (s.port e).request.isNone && (s.port e).waiting.isEmpty

/-- ATTN (R178): an enabled flag is set; deasserted whenever the run state is not RUN (R176). -/
def State.attn (s : State) (e : End) : Bool :=
  s.running
    && (((s.port e).decisionReady && (s.port e).enableDecision)
      || ((s.port e).serviceChanged && (s.port e).enableService))

/-- A produced response enters the empty buffer when nothing waits, else joins the waiting list last (R176). -/
def EndPort.produce (p : EndPort) (r : Posted) : EndPort :=
  if p.buffer.isNone && p.waiting.isEmpty then { p with buffer := some r } else { p with waiting := p.waiting ++ [r] }

/-- The response buffer empties and the first waiting frame moves into it (R176). -/
def EndPort.emptied (p : EndPort) : EndPort := { p with buffer := p.waiting.head?, waiting := p.waiting.tail }

/-- Whether a late decision is in the response buffer or the waiting list (R178). -/
def EndPort.holdsLate (p : EndPort) : Bool := p.buffer.toList.any Posted.late || p.waiting.any Posted.late

/-- The port produces the response to the request in process, which is in process no more. -/
def State.respond (s : State) (e : End) (r : Response) : State :=
  s.setPort e { (s.port e).produce { response := r, late := false } with request := none }

/-- The AU hands a late decision to the port, which raises DECISION_READY (R17, R18, R176). -/
def State.postLate (s : State) (e : End) (d : Decision) : State :=
  s.setPort e { (s.port e).produce { response := .decision d, late := true } with decisionReady := true }

/-- R6: the first condition that keeps the aisle from selling a passage. -/
def State.serviceRefusal (s : State) : Option (Reason × Option SubCause) :=
  if s.aisle.state = .emergency then some (.emergency, none)
  else if s.unconfigured then some (.outOfService, some .notConfigured)
  else if s.time.valid = false then some (.outOfService, some .timeInvalid)
  else if s.tariff.current = none then some (.outOfService, some .noTariff)
  else if s.params.serviceMode = .outOf then some (.outOfService, some .stationMode)
  else if s.faultOutOfService then some (.outOfService, some .fault)
  else none

/-- The service summary (R178). -/
def State.summary (s : State) : Summary :=
  match s.serviceRefusal with
  | some (_, none) => .emergency
  | some (_, some c) => .sub c
  | none => if s.journal.full then .sub .journalFull else .inService

/-- SERVICE_CHANGED at both ports when an event has changed the service summary (R178). -/
def State.judgeService (before after : State) : State :=
  if before.summary = after.summary then after
  else { after with ports :=
    { a := { after.ports.a with serviceChanged := true }, b := { after.ports.b with serviceChanged := true } } }

end Sys2Proof.Machine
end

