-- ==== Sys2Proof/Machine/Fares.lean ====
section
/-! DEFINITION. Chapter 3, with the operating day and day type of chapter 2: the fare engine, a function of the
inputs of R41 and nothing else. -/

namespace Sys2Proof.Machine

/-! ## Days (R27, R28) -/

/-- The operating day number of a minute, by floor division (2.2). -/
def opDay (minute rollover : Nat) : Int := ((minute : Int) - (rollover : Int)) / 1440

/-- The minute of the operating day, taken as non-negative (2.2). -/
def opMinute (minute rollover : Nat) : Nat := (((minute : Int) - (rollover : Int)) % 1440).toNat

/-- The day type of an operating day (R28, R42). -/
def dayType (t : Tariff) (d : Int) : DayType :=
  if t.holidays.any (fun h => decide ((h : Int) = d)) then .sundayHoliday
  else
    let w := (d + (t.epochWeekday : Int)) % 7
    if w ≤ 4 then .weekday else if w = 5 then .saturday else .sundayHoliday

/-- The band set of a day type (2.3). -/
def Tariff.bands (t : Tariff) : DayType → List Band
  | .weekday => t.weekday
  | .saturday => t.saturday
  | .sundayHoliday => t.sunday

/-- The percent of the band with the greatest start not above the minute (R48). -/
def bandPercent (bands : List Band) (minute : Nat) : Nat :=
  (bands.foldl (fun best b => if b.start ≤ minute ∧ best.start ≤ b.start then b else best)
    { start := 0, percent := 0 }).percent

/-! ## Inputs (R41) -/

/-- The inputs of one computation (R41). -/
structure FareInput where
  image : CardImage
  now : Nat
  today : Int
  tariff : Tariff
  station : Nat
  aisle : Nat
  windows : List Window

/-- The engine's answer: a refusal, or a charge, flags and the new image's fields (R41). -/
inductive FareResult where
  | refuse (r : Reason)
  | grant (charge : Nat) (flags : Flags) (image : CardImage)
  deriving DecidableEq, Repr

/-- The now-minute (R42). -/
def FareInput.minute (i : FareInput) : Nat := i.now / 60

/-- The card's row of the class table. -/
def FareInput.row (i : FareInput) : ClassRow :=
  i.tariff.classes.getD i.image.cls { discount := 0, cap := 0, overdraft := 0, minEntry := 0, freeTravel := false }

/-- R43: a window matches the card's entry. -/
def Window.covers (w : Window) (station entryTime : Nat) : Bool :=
  (w.station == station || w.station == 255) && decide (w.fromMinute ≤ entryTime) && decide (entryTime ≤ w.toMinute)

/-- The card's entry lies inside an amnesty window (R43). -/
def FareInput.pardoned (i : FareInput) : Bool :=
  i.windows.any fun w => w.covers i.image.entryStation i.image.entryTime

/-- R42: an entry time lies within a re-tap window; the elapsed minutes are 0 for a time later than now. -/
def withinRetap (minute entryTime window : Nat) : Bool := decide (minute - entryTime ≤ window)

/-! ## Exit processing (R44 to R54) -/

/-- Stage 1 (R45): the duration and TIME_SKEW. -/
def journeyTime (now entryTime tolerance : Nat) : Nat × Bool :=
  (now - entryTime, decide (tolerance < entryTime - now))

/-- The zone of a station code in the station table; a code the table does not hold is not in the tariff. -/
def Tariff.zone (t : Tariff) (station : Nat) : Nat := t.stations.getD station 0

/-- The matrix value of an entry zone and an exit zone, 1–16 each (12.6). -/
def Tariff.matrix (t : Tariff) (zoneIn zoneOut : Nat) : Nat := t.fares.getD ((zoneIn - 1) * 16 + (zoneOut - 1)) 0

/-- The largest of some amounts. -/
def largest (l : List Nat) : Nat := l.foldl max 0

/-- Stage 3 (R47): the base fare and UNKNOWN_ORIGIN. -/
def baseFare (t : Tariff) (entryStation station : Nat) : Nat × Bool :=
  let zoneIn := if entryStation = 255 then 0 else t.zone entryStation
  let zoneOut := t.zone station
  if zoneOut = 0 then (largest t.fares, true)
  else if zoneIn = 0 then (largest ((List.range 16).map fun k => t.matrix (k + 1) zoneOut), true)
  else (t.matrix zoneIn zoneOut, false)

/-- Stages 5 and 6 (R49): scaled by band and concession and rounded to the step, half-way up. -/
def scaledFare (base percent discount step : Nat) : Nat :=
  step * ((base * percent * (100 - discount) + 5000 * step) / (10000 * step))

/-- Stage 4 (R48): the band percent, by the day type of the entry day. -/
def entryPercent (t : Tariff) (entryTime : Nat) : Nat :=
  bandPercent (t.bands (dayType t (opDay entryTime t.rollover))) (opMinute entryTime t.rollover)

/-- Stages 2 to 7 (R46 to R50): the fare before saturation, with its flags. -/
def journeyFare (i : FareInput) : Nat × Flags :=
  let d := journeyTime i.minute i.image.entryTime i.tariff.skewTolerance
  if i.image.entryStation = i.station then
    (if d.1 ≤ i.tariff.grace then 0 else i.tariff.sameStationFee, { timeSkew := d.2, sameStation := true })
  else
    let base := baseFare i.tariff i.image.entryStation i.station
    let fare := scaledFare base.1 (entryPercent i.tariff i.image.entryTime) i.row.discount i.tariff.step
    if d.1 ≤ i.tariff.maxJourney then (fare, { timeSkew := d.2, unknownOrigin := base.2 })
    else if i.pardoned then (fare, { timeSkew := d.2, unknownOrigin := base.2, amnesty := true })
    else (fare + i.tariff.overstay, { timeSkew := d.2, unknownOrigin := base.2 })

/-- The presented day spend when the presented day is today, else 0 (R52). -/
def FareInput.spentToday (i : FareInput) : Nat := if (i.image.dayNumber : Int) = i.today then i.image.daySpend else 0

/-- Stage 9 (R52): the charge under the daily cap. -/
def cappedCharge (cap spent fare : Nat) : Nat :=
  if cap = 0 then fare else if spent < cap then min fare (cap - spent) else 0

/-- Stage 10 (R53): nothing when the card can pay, else whether into overdraft; `none` is INSUFFICIENT. -/
def settleBalance (balance : Int) (charge overdraft : Nat) : Option (Int × Bool) :=
  let nb := balance - (charge : Int)
  if 0 ≤ nb then some (nb, false)
  else if 0 ≤ balance ∧ -(overdraft : Int) ≤ nb then some (nb, true)
  else none

/-- The fields every exit image changes but balance and day (R44, R54). -/
def leaveImage (i : CardImage) : CardImage :=
  { i with state := 0, sequence := i.sequence + 1, entryStation := 255, entryAisle := 0 }

/-- Exit processing (R44, R51 to R54). -/
def exitFare (i : FareInput) : FareResult :=
  if i.image.state = 0 then .refuse .noEntryRecord
  else if i.row.freeTravel then
    if i.image.balance < -(i.row.overdraft : Int) then .refuse .insufficient
    else .grant 0 {} (leaveImage i.image)
  else
    let j := journeyFare i
    let charge := cappedCharge i.row.cap i.spentToday (min j.1 65535)
    match settleBalance i.image.balance charge i.row.overdraft with
    | none => .refuse .insufficient
    | some (nb, overdraft) =>
      .grant charge { j.2 with overdraft := overdraft }
        { leaveImage i.image with balance := nb, dayNumber := i.today.toNat, daySpend := min 65535 (i.spentToday + charge) }

/-! ## Entry processing (R55 to R58) -/

/-- The entry image (R58). -/
def FareInput.enter (i : FareInput) (fee : Nat) : CardImage :=
  { i.image with
    state := 1
    balance := i.image.balance - (fee : Int)
    sequence := i.image.sequence + 1
    entryStation := i.station
    entryTime := i.minute
    entryAisle := i.aisle }

/-- Stage 2 (R56): the fee of a card still IN and its flags; `none` is PASSBACK. -/
def entryFee (i : FareInput) : Option (Nat × Flags) :=
  if i.image.state ≠ 1 then some (0, {})
  else if i.image.entryStation = i.station ∧ withinRetap i.minute i.image.entryTime i.tariff.retapWindow = true then none
  else if i.pardoned then some (0, { incompleteFee := true, amnesty := true })
  else some (i.tariff.incompleteFee, { incompleteFee := true })

/-- Entry processing (R55 to R58). -/
def entryFare (i : FareInput) : FareResult :=
  if (i.image.expiryDay : Int) < i.today then .refuse .cardExpired
  else if i.row.freeTravel then
    if i.image.balance < -(i.row.overdraft : Int) then .refuse .lowBalance
    else .grant 0 {} (i.enter 0)
  else
    match entryFee i with
    | none => .refuse .passback
    | some (fee, flags) =>
      if i.image.balance - (fee : Int) < (i.row.minEntry : Int) then .refuse .lowBalance
      else .grant fee flags (i.enter fee)

/-- The engine, by the role of the presenting end (R41). -/
def computeFare (role : Role) (i : FareInput) : FareResult :=
  match role with
  | .entry => entryFare i
  | .exit => exitFare i

end Sys2Proof.Machine
end

