-- ==== Sys2Proof/Machine/Sightings.lean ====
section
/-! DEFINITION. Chapter 4: the sighting table as a list, most recently touched first, and the judgement of a
presentation. -/

namespace Sys2Proof.Machine

/-- A pinned entry: outcome DECIDED or PENDING (R60). -/
def Sighted.pinned : Sighted → Bool
  | .decided _ => true
  | .pending => true
  | .used => false
  | .unused => false
  | .unconfirmed _ => false

/-- An entry's age in seconds, 0 for a stamp later than now (R26, R61). -/
def Sighting.age (e : Sighting) (now : Nat) : Nat := now - e.time

/-- R61: an unpinned entry whose age exceeds the retention, in minutes. -/
def Sighting.expired (e : Sighting) (retention now : Nat) : Bool :=
  !e.outcome.pinned && decide (retention * 60 < e.age now)

/-- The entry of a card number as it stands, expired or not. -/
def findSighting (l : List Sighting) (card : Nat) : Option Sighting := l.find? fun e => e.card == card

/-- The table without a card number's entry. -/
def dropSighting (l : List Sighting) (card : Nat) : List Sighting := l.filter fun e => e.card != card

/-- The table without its least recently touched unpinned entry (R62). -/
def dropOldest : List Sighting → List Sighting
  | [] => []
  | e :: es =>
    if es.any (fun x => !x.outcome.pinned) then e :: dropOldest es
    else if e.outcome.pinned then e :: es else es

/-- Write a grant's entry: in place of the card number's own, else as a new entry, replacing the least recently
touched unpinned one when 512 are held (R62). -/
def recordSighting (l : List Sighting) (e : Sighting) : List Sighting :=
  match findSighting l e.card with
  | some _ => e :: dropSighting l e.card
  | none => e :: (if 512 ≤ l.length then dropOldest l else l)

/-- Put back what a context saved: the saved entry, most recently touched, or nothing (R71). -/
def restoreSighting (l : List Sighting) (card : Nat) (saved : Option Sighting) : List Sighting :=
  match saved with
  | some e => e :: dropSighting l card
  | none => dropSighting l card

/-- Give a card number's entry its outcome in its place in the order; an entry unpinned past its retention is removed
(R61, R70 to R75). -/
def settleSighting (retention now : Nat) (card : Nat) (o : Sighted) (l : List Sighting) : List Sighting :=
  (l.map fun e => if e.card = card then { e with outcome := o } else e).filter fun e =>
    !(e.card == card && e.expired retention now)

/-- The table after a counted second: its expired entries removed (R61). -/
def purgeSightings (retention now : Nat) (l : List Sighting) : List Sighting :=
  l.filter fun e => !e.expired retention now

/-- The table's answer at step 6 (R63). -/
inductive Judgement where
  | cloneSuspect (expected : Nat)
  | alreadyGranted
  | passback
  | retap
  | recovery (reference : Nat)
  | continue
  deriving DecidableEq, Repr

/-- What the judgement reads besides the entry (R10, R63). -/
structure Presentation where
  image : CardImage
  atEnd : End
  role : Role
  entryEnd : End
  station : Nat
  now : Nat
  retapWindow : Nat

/-- The card is IN at this station within the re-tap window (R63). -/
def Presentation.inHere (p : Presentation) : Bool :=
  p.image.state == 1 && p.image.entryStation == p.station && withinRetap (p.now / 60) p.image.entryTime p.retapWindow

/-- R68, for a presentation whose sequence and balance are as the aisle left them. -/
def judgeSettled (e : Sighting) (p : Presentation) : Judgement :=
  if e.outcome = .unused ∧ e.kind = p.role ∧ e.age p.now ≤ p.retapWindow * 60 then .retap
  else if e.outcome = .used ∧ p.atEnd = p.entryEnd ∧ p.inHere = true then .passback
  else .continue

/-- R67, then R68. -/
def judgeUnpinned (e : Sighting) (p : Presentation) : Judgement :=
  if p.image.sequence < e.newSeq then .cloneSuspect e.newSeq
  else if e.newSeq < p.image.sequence then .continue
  else if p.image.balance ≠ e.balance then .cloneSuspect e.newSeq
  else judgeSettled e p

/-- R63 to R68: the judgement by the outcome of the entry that is present and not expired. -/
def judge (entry : Option Sighting) (p : Presentation) : Judgement :=
  match entry with
  | none => .continue
  | some e =>
    match e.outcome with
    | .decided _ => .cloneSuspect e.oldSeq
    | .pending =>
      if p.image.sequence < e.newSeq then .cloneSuspect e.newSeq
      else if p.image.sequence = e.newSeq ∧ p.atEnd ≠ e.fromEnd then .passback
      else .alreadyGranted
    | .unconfirmed ref =>
      if p.image.sequence < e.oldSeq then .cloneSuspect e.oldSeq
      else if p.image.sequence = e.newSeq ∧ e.kind = p.role then .recovery ref
      else .continue
    | .used => judgeUnpinned e p
    | .unused => judgeUnpinned e p

/-- The entry a lookup finds: expired entries count as absent (R61). -/
def State.lookupSighting (s : State) (card : Nat) : Option Sighting :=
  (findSighting s.sightings card).filter fun e => !e.expired s.params.retention s.time.counter

/-- Give the card number's entry its outcome. -/
def State.setOutcome (s : State) (card : Nat) (o : Sighted) : State :=
  { s with sightings := settleSighting s.params.retention s.time.counter card o s.sightings }

end Sys2Proof.Machine
end

