-- ==== Sys2Proof/Machine/Credits.lean ====
section
/-! DEFINITION. Chapter 6's claims on the aisle: reservations, wait slots, credits, and what the AU does when the
arbiter grants or refuses a wait (chapter 1). -/

namespace Sys2Proof.Machine

/-! ## Claims (R94, R96) -/

/-- The arbiter's answer to a reservation request (R94). -/
inductive Claim where
  | reserved
  | waits
  | refused (r : Reason) (sub : Option SubCause)
  deriving DecidableEq, Repr

/-- R94, R96: fewer than 3 credits, service mode IN, and the other slot empty or this end of strictly higher
priority. -/
def State.ownerMayReserve (s : State) (e : End) : Bool :=
  decide (s.aisle.credits.length < 3) && s.params.serviceMode == .inService
    && (!s.aisle.waiting.get e.other || decide (s.params.priority.get e.other < s.params.priority.get e))

/-- R94: how a request of end `e` is decided. -/
def State.claim (s : State) (e : End) : Claim :=
  match s.aisle.state with
  | .idle => .reserved
  | .serving => owner
  | .violation => owner
  | .emergency => .refused .emergency none
  | .outOfService =>
    .refused .outOfService (some (if s.params.serviceMode = .outOf then .stationMode else .fault))
where
  /-- The rows of SERVING and VIOLATION. -/
  owner : Claim :=
    if s.aisle.owned ≠ some (endDir e) then .waits
    else if s.params.serviceMode = .outOf then .refused .outOfService (some .stationMode)
    else if s.ownerMayReserve e then .reserved
    else .waits

/-- `e`'s context holds the reservation: the direction is `e`'s and `e` the last-served end (R94, R97). -/
def State.takeReservation (s : State) (e : End) : State :=
  { s with aisle := { s.aisle with
    reservation := some e
    owned := some (endDir e)
    lastServed := e
    state := if s.aisle.state = .idle then .serving else s.aisle.state } }

/-- R92: in EMERGENCY and OUT_OF_SERVICE the owned direction goes when reservation and credits are gone. -/
def Arbiter.disown (a : Arbiter) : Arbiter :=
  if (a.state = .emergency ∨ a.state = .outOfService) ∧ a.reservation = none ∧ a.credits = [] then
    { a with owned := none }
  else a

/-- The reservation is released without a credit (R99). -/
def State.releaseReservation (s : State) : State :=
  { s with aisle := { s.aisle with reservation := none }.disown }

/-- A wait slot is filled or emptied. -/
def State.setWaiting (s : State) (e : End) (w : Bool) : State :=
  { s with aisle := { s.aisle with waiting := s.aisle.waiting.set e w } }

/-- What became of a reservation whose grant completed: the outcome of its sighting entry (R19). -/
inductive Converted where
  | credit
  | given
  | stopped
  deriving DecidableEq, Repr

/-- The sighting outcome of each (R19, R70). -/
def Converted.outcome : Converted → Sighted
  | .credit => .pending
  | .given => .used
  | .stopped => .unused

/-- The ABANDONED record of a credit lost at its deadline or at a FAULT (R101, R112, R146). A credit holds no flags, so
the record carries none, where R9 says every journal record of the transaction (assumption log 44). -/
def abandonedRecord (e : End) (card : Nat) (kind : GrantKind) : RecordData :=
  { kind := .abandoned, atEnd := some e, card := some card, reference := some kind.code }

/-- The ABANDONED record of a COMMIT taken in a FAULT (R19): it carries the context's flags, as R9 and R80 say of every
journal record of the transaction and R145 of a record that carries a grant (assumption log 44). -/
def stoppedRecord (e : End) (t : Txn) : RecordData := { abandonedRecord e t.card t.kind with flags := t.flags }

/-- R99: the aisle state and the HELD flag decide what a completed grant's reservation becomes. -/
def State.conversion (s : State) (held : Bool) : Converted :=
  if held then .given
  else
    match s.aisle.state with
    | .serving => .credit
    | .violation => .credit
    | .outOfService => .stopped
    | .emergency => .given
    | .idle => .given

/-- The reservation of `e`'s completed grant is turned into a credit or released (R99). -/
def State.convert (s : State) (e : End) (t : Txn) : State :=
  match s.conversion t.flags.held with
  | .credit =>
    { s with aisle := { s.aisle with
      reservation := none
      credits := s.aisle.credits ++ [{ fromEnd := e, card := t.card, kind := t.kind, deadline := none }] } }
  | .given => s.releaseReservation
  | .stopped => s.releaseReservation.append (stoppedRecord e t)

/-! ## Grants completing and waits ending (R15 to R18) -/

/-- The DECISION a transaction's grant carries (R15). -/
def Txn.decision (t : Txn) : Decision := .granted t.kind t.charge t.flags t.image

/-- The RETAP or RECOVERY record (R16, R146). -/
def noWriteRecord (e : End) (t : Txn) : RecordData :=
  { kind := match t.kind with | .recovery => .recovery | _ => .retap
    atEnd := some e, flags := t.flags, card := some t.card, balance := some t.presBalance,
    cardSeq := some t.presSeq,
    reference := match t.kind with | .recovery => some (t.reference.getD 0) | _ => none }

/-- A no-write grant that holds both reservations completes (R16). -/
def State.completeNoWrite (s : State) (e : End) (t : Txn) : State :=
  let s1 := (s.appendReserved (noWriteRecord e t)).convert e t
  (s1.setOutcome t.card (s.conversion t.flags.held).outcome).setCtx e .idle

/-- A grant that holds both reservations: a write grant enters DECIDED with its commit deadline started (R15), a
no-write grant completes. -/
def State.enterGrant (s : State) (e : End) (t : Txn) : State :=
  if t.kind.isWrite then s.setCtx e (.decided t s.params.commitDeadline) else s.completeNoWrite e t

/-- R17: the arbiter grants the request waiting in slot `e`. -/
def State.grantWait (s : State) (e : End) : State :=
  match s.ctx e with
  | .waitAisle t _ => (((s.setWaiting e false).takeReservation e).enterGrant e t).postLate e t.decision
  | .idle => s
  | .decided _ _ => s

/-- What leaves WAIT_AISLE without a grant: the journal reservation, the wait slot, the sighting entry (R18, R20). -/
def State.withdraw (s : State) (e : End) (t : Txn) : State :=
  (({ s with
      journal := s.journal.release
      sightings := restoreSighting s.sightings t.card t.previous }).setWaiting e false).setCtx e .idle

/-- R18: a wait ends in a late refusal. -/
def State.refuseWait (s : State) (e : End) (r : Reason) (sub : Option SubCause) : State :=
  match s.ctx e with
  | .waitAisle t _ => (s.withdraw e t).postLate e (.refused r sub)
  | .idle => s
  | .decided _ _ => s

/-- R98: the arbiter refuses every waiting request. -/
def State.refuseWaits (s : State) (r : Reason) (sub : Option SubCause) : State :=
  let s1 := if s.aisle.waiting.a then s.refuseWait .a r sub else s
  if s1.aisle.waiting.b then s1.refuseWait .b r sub else s1

/-- The DENIED record (R9, R18). -/
def deniedRecord (e : End) (card reason : Nat) : RecordData :=
  { kind := .denied, atEnd := some e, card := some card, reference := some reason }

/-- R22 at one context: HELD when DECIDED, a late DENIED refusal when it waits. -/
def State.insertReaches (s : State) (card reason : Nat) (e : End) : State :=
  match s.ctx e with
  | .idle => s
  | .decided t d => if t.card = card then s.setCtx e (.decided { t with flags := { t.flags with held := true } } d) else s
  | .waitAisle t _ =>
    if t.card = card then (s.refuseWait e .denied none).append (deniedRecord e card reason) else s

/-- R90: an insert is handed to the AU, which takes it at each context that names the card. -/
def State.denyInsert (s : State) (card reason : Nat) : State :=
  (s.insertReaches card reason .a).insertReaches card reason .b

/-- The UNCONFIRMED record of a decided transaction (R21, R146). -/
def unconfirmedRecord (e : End) (t : Txn) : RecordData :=
  { kind := .unconfirmed, atEnd := some e, flags := t.flags, card := some t.card, amount := some t.charge,
    balance := some (match t.image with | some i => i.balance | none => t.presBalance),
    cardSeq := some (t.presSeq + 1), reference := some t.kind.code }

/-- R21, R23: a decided transaction is resolved as unconfirmed. -/
def State.unconfirm (s : State) (e : End) (t : Txn) : State :=
  let s1 := s.appendReserved (unconfirmedRecord e t)
  (((s1.setOutcome t.card (.unconfirmed s1.journal.lastSeq)).releaseReservation).setLateCard e (some t.card)).setCtx e
    .idle

/-! ## Credits leaving the queue (R100) -/

/-- One credit of a queue that is emptied: its entry takes the outcome, with an ABANDONED record when asked (R74,
R75). -/
def State.loseCredit (abandon : Bool) (o : Sighted) (s : State) (c : Credit) : State :=
  let s1 := s.setOutcome c.card o
  if abandon then s1.append (abandonedRecord c.fromEnd c.card c.kind) else s1

/-- Every credit is removed, oldest first (R112, R113). -/
def State.loseCredits (s : State) (abandon : Bool) (o : Sighted) : State :=
  let s1 := s.aisle.credits.foldl (State.loseCredit abandon o) s
  { s1 with aisle := { s1.aisle with credits := [] }.disown }

/-- The head credit leaves the queue with its entry's outcome (R101, R102). -/
def State.popCredit (s : State) (c : Credit) (rest : List Credit) (o : Sighted) : State :=
  { s with aisle := { s.aisle with credits := rest }.disown }.setOutcome c.card o

end Sys2Proof.Machine
end

