-- ==== Sys2Proof/Machine/Aisle.lean ====
section
/-! DEFINITION. Chapter 6: the tests the arbiter makes "at the first event at which" a condition holds, gathered in
`settle`; crossings and violations; the flap FAULT. -/

namespace Sys2Proof.Machine

/-! ## What the arbiter tests at every event of the aisle -/

/-- The aisle mode lets the flaps' state end a violation or a service (R106, R108). -/
def State.normallyOpen (s : State) : Bool := s.params.aisleMode == .normallyOpen

/-- No credit and no reservation: nothing outstanding in the aisle. -/
def Arbiter.idleClaims (a : Arbiter) : Bool := a.credits.isEmpty && a.reservation.isNone

/-- The aisle leaves SERVING or VIOLATION with nothing outstanding: IDLE with the service mode IN, else
OUT_OF_SERVICE; the owned direction becomes absent (R106, R108, R109). -/
def State.vacate (s : State) : State :=
  if s.params.serviceMode = .inService then
    { s with aisle := { s.aisle with state := .idle, owned := none } }.command s.modeCommand
  else { s with aisle := { s.aisle with state := .outOfService, owned := none } }.command .toClose

/-- R106: the violation ends when the reopen delay has run out and, in NORMALLY_CLOSED mode, the flaps are CLOSED. -/
def State.endViolation (s : State) : State :=
  if s.aisle.state = .violation ∧ s.aisle.reopenDelay = some 0
      ∧ (s.normallyOpen = true ∨ s.drive.flap = .closed) then
    let s1 := { s with aisle := { s.aisle with reopenDelay := none } }
    if s.aisle.idleClaims then s1.vacate
    else { s1 with aisle := { s1.aisle with state := .serving } }.command s.modeCommand
  else s

/-- R108, R109: SERVING ends when nothing is outstanding and the flaps are CLOSED, or, in NORMALLY_OPEN mode, all three
zones are clear. -/
def State.endService (s : State) : State :=
  if s.aisle.state = .serving ∧ s.aisle.idleClaims = true
      ∧ (if s.normallyOpen then allClear s.monitor.zones = true else s.drive.flap = .closed) then s.vacate
  else s

/-- R97: the end a free point serves, by priority, then the end not served last. -/
def State.freePointEnd (s : State) : Option End :=
  if s.aisle.waiting.a && s.aisle.waiting.b then
    if s.params.priority.b < s.params.priority.a then some .a
    else if s.params.priority.a < s.params.priority.b then some .b
    else some s.aisle.lastServed.other
  else if s.aisle.waiting.a then some .a
  else if s.aisle.waiting.b then some .b
  else none

/-- R97: at a free point a waiting request is granted. -/
def State.freePoint (s : State) : State :=
  if s.aisle.state = .idle then
    match s.freePointEnd with
    | some e => s.grantWait e
    | none => s
  else s

/-- R96: the owning end's waiting request is granted when its conditions hold. -/
def State.ownerGrant (s : State) : State :=
  match s.aisle.owned with
  | none => s
  | some d =>
    if (s.aisle.state = .serving ∨ s.aisle.state = .violation) ∧ s.aisle.waiting.get d.source = true
        ∧ s.aisle.reservation = none ∧ s.ownerMayReserve d.source = true then s.grantWait d.source
    else s

/-- R108, R109, R110: the command OPEN of a SERVING aisle with credits, and of a NORMALLY_OPEN aisle in IDLE or
SERVING. -/
def State.commandFlaps (s : State) : State :=
  if s.normallyOpen then
    if s.aisle.state = .idle ∨ s.aisle.state = .serving then s.command .toOpen else s
  else if s.aisle.state = .serving ∧ s.aisle.credits ≠ [] then s.command .toOpen
  else s

/-- R108, R110: when the close-delay timer runs. -/
def State.closeDelayRuns (s : State) : Bool :=
  !s.normallyOpen && (s.aisle.state == .serving || s.aisle.state == .idle) && s.aisle.idleClaims
    && !s.monitor.zones.zF && s.drive.command == .toOpen

/-- R106: when the reopen-delay timer runs. -/
def State.reopenDelayRuns (s : State) : Bool := s.aisle.state == .violation && allClear s.monitor.zones

/-- R101: whether the head credit's deadline may start. -/
def State.passageStarts (s : State) : Bool := s.normallyOpen || s.drive.flap == .opened

/-- A timer that runs from its full length while a condition holds. -/
def timerWhile (holds : Bool) (length : Nat) (t : Option Nat) : Option Nat :=
  if holds then some (t.getD length) else none

/-- The head credit's passage deadline starts, once (R101). -/
def startDeadline (starts : Bool) (length : Nat) : List Credit → List Credit
  | [] => []
  | c :: cs => (if starts && c.deadline.isNone then { c with deadline := some length } else c) :: cs

/-- The arbiter's timers start and stop (R101, R106, R108). -/
def State.runTimers (s : State) : State :=
  { s with aisle := { s.aisle with
    closeDelay := timerWhile s.closeDelayRuns s.params.closeDelay s.aisle.closeDelay
    reopenDelay := timerWhile s.reopenDelayRuns s.params.reopenDelay s.aisle.reopenDelay
    credits := startDeadline s.passageStarts (s.params.passageTimeout * 1000) s.aisle.credits } }

/-- One pass of the arbiter's tests. -/
def State.arbiterPass (s : State) : State :=
  s.endViolation.endService.freePoint.ownerGrant.commandFlaps.runTimers

/-- The drive takes its command, then the arbiter makes its tests. -/
def State.settlePass (s : State) : State := s.drivePass.arbiterPass

/-- What an event of the aisle leads to within the same event: three passes carry the longest chain of R97, R108 and
R121 (flaps CLOSED, free point, grant, OPEN) to its end, and a pass with nothing to do changes nothing. Only RUN
moves the aisle (R93, R128). -/
def State.settle (s : State) : State :=
  if s.running then s.settlePass.settlePass.settlePass.showLamps else s

/-! ## Fault (R112, R125) -/

/-- The cause codes of a FAULT record (12.4). -/
inductive FaultCause where
  | openTimeout
  | closeTimeout
  | obstruction
  deriving DecidableEq, Repr

/-- The code of a fault's cause (12.4). -/
def FaultCause.code : FaultCause → Nat
  | .openTimeout => 1
  | .closeTimeout => 2
  | .obstruction => 3

/-- R112: the arbiter takes a reported FAULT. -/
def State.arbiterFault (s : State) : State :=
  if s.aisle.state = .emergency then s
  else
    let s1 := { s with aisle := { s.aisle with state := .outOfService, closeDelay := none, reopenDelay := none } }
    (s1.loseCredits true .unused).refuseWaits .outOfService (some .fault)

/-- R125: the drive enters FAULT. -/
def State.enterFault (s : State) (c : FaultCause) : State :=
  let s1 := { s with drive := { s.drive with
    flap := .fault, motion := none, obstructCount := 0, closeHold := false, holdTimer := none, pause := none,
    clearing := false } }
  ((s1.append { kind := .fault, reference := some c.code }).attend fun a => { a with fault := true }).arbiterFault

/-! ## Crossings (R102 to R105) -/

/-- R103, R104: the aisle enters or stays in VIOLATION. -/
def State.violate (s : State) (kind : RecordKind) (d : Dir) : State :=
  let s1 := { s with
    aisle := { s.aisle with state := .violation, closeDelay := none, reopenDelay := none }
    drive := { s.drive with buzzer := some s.params.buzzerDuration } }
  (s1.command .toClose).append { kind := kind, atEnd := some d.source }

/-- A CROSS from the passage monitor, matched to the head credit or to none (R102 to R105). -/
def State.cross (s : State) (d : Dir) : State :=
  match s.aisle.state with
  | .emergency => s
  | .outOfService =>
    match s.aisle.credits with
    | c :: cs => if s.aisle.owned = some d then s.popCredit c cs .used else s
    | [] => s
  | .idle => s.violate .tailgate d
  | .serving => owned
  | .violation => owned
where
  /-- SERVING and VIOLATION. -/
  owned : State :=
    match s.aisle.owned with
    | none => s.violate .tailgate d
    | some o =>
      if o = d then
        match s.aisle.credits with
        | c :: cs => s.popCredit c cs .used
        | [] => s.violate .tailgate d
      else s.violate .intrusion d

end Sys2Proof.Machine
end

