-- ==== Sys2Proof/Machine/Emergency.lean ====
section
/-! DEFINITION. Chapter 8: the start and the end of an emergency and the amnesty list. -/

namespace Sys2Proof.Machine

/-- The causes of an emergency record (12.4). -/
inductive EmergencyCause where
  | input
  | station
  deriving DecidableEq, Repr

/-- The code of a cause (12.4). -/
def EmergencyCause.code : EmergencyCause → Nat
  | .input => 1
  | .station => 2

/-- An emergency stands. -/
def State.standing (s : State) : Bool := s.emergency.stage.isSome

/-- The arbiter takes stage 1 (R113). -/
def State.arbiterEmergency (s : State) : State :=
  let s1 := { s with aisle := { s.aisle with
    state := .emergency, closeDelay := none, reopenDelay := none, attention := false } }
  (s1.loseCredits false .used).refuseWaits .emergency none

/-- R137, R138: an emergency starts: stage 1 whole, then the release. -/
def State.startEmergency (s : State) (c : EmergencyCause) : State :=
  let s1 := { s with emergency := { s.emergency with
    stage := some .releasing, stamp := some (s.time.counter, s.time.valid) } }
  let s2 := s1.arbiterEmergency
  let s3 := { s2 with drive := { s2.drive with buzzer := none } }
  let s4 := (s3.append { kind := .emergencyStart, reference := some c.code }).attend fun a => { a with emergency := true }
  s4.beginRelease.settle

/-- The arbiter leaves EMERGENCY (R113). -/
def State.arbiterCalm (s : State) : State :=
  if s.aisle.state = .emergency then
    if s.drive.flap = .fault then { s with aisle := { s.aisle with state := .outOfService }.disown }
    else if s.aisle.reservation.isSome then
      { s with aisle := { s.aisle with state := .serving } }.command s.modeCommand
    else if s.params.serviceMode = .outOf then
      { s with aisle := { s.aisle with state := .outOfService, owned := none } }.command .toClose
    else { s with aisle := { s.aisle with state := .idle, owned := none } }.command s.modeCommand
  else s

/-! ## The amnesty list -/

/-- The largest minute (1.1). -/
def maxMinute : Nat := 71582788

/-- R141: the window joins last; the oldest of eight goes. -/
def addWindow (l : List Window) (w : Window) : List Window := (if 8 ≤ l.length then l.tail else l) ++ [w]

/-- R140: the window of the emergency that ends now, when there is one. -/
def State.ownWindow (s : State) : Option Window :=
  match s.emergency.stamp with
  | none => none
  | some (stamp, valid) =>
    if valid = false ∨ s.time.valid = false ∨ s.params.stationCode = 255 then none
    else
      let m1 := stamp / 60
      let m2 := s.time.counter / 60
      some { station := s.params.stationCode
             fromMinute := min m1 m2 - s.params.amnestyMargin
             toMinute := min maxMinute (max m1 m2 + s.params.amnestyMargin) }

/-- The emergency's own window joins the list. -/
def State.addOwnWindow (s : State) : State :=
  match s.ownWindow with
  | some w => { s with emergency := { s.emergency with amnesty := addWindow s.emergency.amnesty w } }
  | none => s

/-- R139: an emergency ends. -/
def State.endEmergency (s : State) (c : EmergencyCause) : State :=
  let s1 := s.endRelease.arbiterCalm
  let s2 := (s1.append { kind := .emergencyEnd, reference := some c.code }).addOwnWindow
  { s2 with emergency := { s2.emergency with stage := none, stamp := none } }.settle

/-! ## The two marks (R135, R136) -/

/-- A filtered assertion (R135). -/
def State.emergAsserted (s : State) : State :=
  let s1 := { s with emergency := { s.emergency with inputMark := true, releaseTimer := none, filtered := true, settle := 0 } }
  if s.standing then s1 else s1.startEmergency .input

/-- A filtered deassertion (R135). -/
def State.emergDeasserted (s : State) : State :=
  { s with emergency := { s.emergency with releaseTimer := some 2000, filtered := false, settle := 0 } }

/-- The release timer runs out (R135). -/
def State.releaseTimerExpiry (s : State) : State :=
  let s1 := { s with emergency := { s.emergency with inputMark := false, releaseTimer := none } }
  if s.standing && !s.emergency.stationMark then s1.endEmergency .input else s1

/-- EMERGENCY_SET (R136). -/
def State.emergencySet (s : State) : State × Answer :=
  let s1 := { s with emergency := { s.emergency with stationMark := true } }
  (if s.standing then s1 else s1.startEmergency .station, bare .ok)

/-- EMERGENCY_CLEAR (R136). -/
def State.emergencyClear (s : State) : State × Answer :=
  if s.standing = false ∨ s.emergency.stationMark = false ∨ s.emergency.filtered = true then (s, bare .badState)
  else
    let s1 := { s with emergency := { s.emergency with stationMark := false } }
    (if s.emergency.inputMark then s1 else s1.endEmergency .station, bare .ok)

/-- AMNESTY_ADD (R142). -/
def State.amnestyAdd (s : State) (w : Window) : State × Answer :=
  if maxMinute < w.fromMinute ∨ maxMinute < w.toMinute ∨ w.toMinute < w.fromMinute then (s, bare .badValue)
  else
    let l := addWindow s.emergency.amnesty w
    ({ s with emergency := { s.emergency with amnesty := l } }, okWith [byte l.length])

end Sys2Proof.Machine
end

