-- ==== Sys2Proof/Machine/Deny.lean ====
section
/-! DEFINITION. Chapter 5: the deny list, its station updates and the aisle's own adds. -/

namespace Sys2Proof.Machine

/-! ## The list (R77) -/

/-- The one entry for a number, or none. -/
def DenyList.find (l : DenyList) (card : Nat) : Option DenyEntry := l.entries.find? fun e => e.card == card

/-- Put an entry in its place in card-number order. -/
def insertDeny (e : DenyEntry) : List DenyEntry → List DenyEntry
  | [] => [e]
  | x :: xs => if e.card < x.card then e :: x :: xs else x :: insertDeny e xs

/-- Remove a number's entry, whatever its origin; a LOCAL one leaves the local order. -/
def DenyList.remove (l : DenyList) (card : Nat) : DenyList :=
  { l with entries := l.entries.filter fun e => e.card != card, localOrder := l.localOrder.filter fun c => c != card }

/-- Remove the oldest LOCAL entry: the first in the local order. -/
def DenyList.removeOldest (l : DenyList) : DenyList :=
  match l.localOrder with
  | [] => l
  | c :: _ => l.remove c

/-- Create a STATION entry. -/
def DenyList.createStation (l : DenyList) (now card reason : Nat) : DenyList :=
  { l with entries := insertDeny { card := card, origin := .station, reason := reason, added := now } l.entries }

/-- Create a LOCAL entry with reason CLONE, last in the local order. -/
def DenyList.createAisle (l : DenyList) (now card : Nat) : DenyList :=
  { l with
    entries := insertDeny { card := card, origin := .aisle, reason := 1, added := now } l.entries
    localOrder := l.localOrder ++ [card] }

/-- The frame's reason, and origin STATION, for a number already present (R83). -/
def DenyList.takeOver (l : DenyList) (card reason : Nat) : DenyList :=
  { l with
    entries := l.entries.map fun e => if e.card = card then { e with origin := .station, reason := reason } else e
    localOrder := l.localOrder.filter fun c => c != card }

/-- What an add did: only the creation of an entry is an insert (R78). -/
inductive Added where
  | unchanged
  | inserted
  | full
  deriving DecidableEq, Repr

/-- One entry of a DENY_ADD (R83). -/
def DenyList.stationAdd (l : DenyList) (now : Nat) (i : DenyItem) : Added × DenyList :=
  if i.card = 0 then (.unchanged, l)
  else if (l.find i.card).isSome then (.unchanged, l.takeOver i.card i.reason)
  else if l.entries.length < 8192 then (.inserted, l.createStation now i.card i.reason)
  else if l.localOrder.isEmpty then (.full, { l with overflow := true })
  else (.inserted, l.removeOldest.createStation now i.card i.reason)

/-- The local add of a number (R88). -/
def DenyList.aisleAdd (l : DenyList) (now card : Nat) : Added × DenyList :=
  if (l.find card).isSome then (.unchanged, l)
  else if 256 ≤ l.localOrder.length then (.inserted, l.removeOldest.createAisle now card)
  else if l.entries.length < 8192 then (.inserted, l.createAisle now card)
  else if l.localOrder.isEmpty then (.full, { l with overflow := true })
  else (.inserted, l.removeOldest.createAisle now card)

/-- What follows an add at the other blocks: an insert is handed to the AU (R90), OVERFLOW sets DENY_OVERFLOW (R79). -/
def State.afterAdd (s : State) (a : Added) (card reason : Nat) : State :=
  match a with
  | .unchanged => s
  | .inserted => s.denyInsert card reason
  | .full => s.attend fun f => { f with denyOverflow := true }

/-- The local add of step 6 (R69, R88). -/
def State.aisleAdd (s : State) (card : Nat) : State :=
  let r := s.deny.aisleAdd s.time.counter card
  { s with deny := r.2 }.afterAdd r.1 card 1

/-! ## Generations (R81) -/

/-- The judgement of an update's generation. -/
inductive Turn where
  | due
  | ignored
  | gap
  deriving DecidableEq, Repr

/-- R81: the distance decides; in EMPTY everything is a gap. -/
def DenyList.turn (l : DenyList) (completing : Bool) (g : Nat) : Turn :=
  if l.state = .empty then .gap
  else
    let k := (g + 65536 - l.generation) % 65536
    if 32768 ≤ k then .ignored
    else if k = 0 then (if completing then .due else .ignored)
    else if k = 1 ∧ completing = false then .due
    else .gap

/-- A gap: GAP and DENY_GAP set, a loaded list LOADING again (R79, R81). -/
def State.denyGap (s : State) : State :=
  let l := if s.deny.state = .empty then s.deny else { s.deny with state := .loading }
  { s with deny := { l with gap := true } }.attend fun f => { f with denyGap := true }

/-- The answer to a deny update: outcome, generation, list state, entries not added (12.5). -/
def State.denyAnswer (s : State) (outcome notAdded : Nat) : Answer :=
  okWith ([byte outcome] ++ beBytes 2 s.deny.generation ++ [byte s.deny.state.code, byte notAdded])

/-- The answer of a frame that is not applied. -/
def State.denyTurned (s : State) : Turn → State × Option Answer
  | .gap => (s.denyGap, some (s.denyGap.denyAnswer 2 0))
  | .ignored => (s, some (s.denyAnswer 1 0))
  | .due => (s, some (s.denyAnswer 0 0))

/-! ## Station updates (R82 to R86) -/

/-- DENY_RELOAD (R82). -/
def State.denyReload (s : State) (g : Nat) : State × Option Answer :=
  let s1 := { s with deny := { s.deny with
    entries := s.deny.entries.filter fun e => e.origin == .aisle
    generation := g, state := .loading, overflow := false, gap := false } }
  (s1, some (s1.denyAnswer 0 0))

/-- DENY_ADD and DENY_REMOVE up to their first entry: the form, the generation, then the frame is held for its entries
(R81, R86, R89). -/
def State.denyUpdate (s : State) (adding : Bool) (g : Nat) (items : List DenyItem) : State × Option Answer :=
  if items.length < 1 ∨ 8 < items.length then (s, some (bare .badValue))
  else
    match s.deny.turn false g with
    | .due => ({ s with deny := { s.deny with
        job := some { adding := adding, generation := g, rest := items, notAdded := 0 } } }, none)
    | .gap => s.denyTurned .gap
    | .ignored => s.denyTurned .ignored

/-- DENY_COMPLETE (R85). -/
def State.denyComplete (s : State) (g : Nat) : State × Option Answer :=
  match s.deny.turn true g with
  | .due =>
    let s1 := { s with deny := { s.deny with state := .complete } }
    (s1, some (s1.denyAnswer 0 0))
  | .gap => s.denyTurned .gap
  | .ignored => s.denyTurned .ignored

/-- DENY_INFO (R87). -/
def State.denyInfo (s : State) (card : Option Nat) : Answer :=
  okWith (beBytes 2 s.deny.generation ++ [byte s.deny.state.code] ++ beBytes 2 s.deny.entries.length
    ++ beBytes 2 (s.deny.entries.length - s.deny.localOrder.length) ++ beBytes 2 s.deny.localOrder.length
    ++ [byte (bitsNat [s.deny.overflow, s.deny.gap])]
    ++ (match card with
        | none => []
        | some c =>
          match s.deny.find c with
          | none => [byte 0, byte 0, byte 0] ++ beBytes 4 0
          | some e =>
            [byte 1, byte (match e.origin with | .station => 0 | .aisle => 1), byte e.reason] ++ beBytes 4 e.added))

/-! ## One entry of a frame (R89) -/

/-- One entry of a DENY_ADD is taken, with the insert it may be. -/
def State.applyAdd (s : State) (i : DenyItem) : State :=
  let r := s.deny.stationAdd s.time.counter i
  { s with deny := r.2 }.afterAdd r.1 i.card i.reason

/-- The count of entries not added, after one more. -/
def DenyJob.count (j : DenyJob) (a : Added) : Nat := if a = .full then j.notAdded + 1 else j.notAdded

/-- The next entry of the frame in hand is taken; the last one sets the generation and answers. -/
def State.denyEntry (s : State) (j : DenyJob) : State × Option Answer :=
  match j.rest with
  | [] => (s, none)
  | i :: rest =>
    let a := if j.adding then (s.deny.stationAdd s.time.counter i).1 else .unchanged
    let s1 := if j.adding then s.applyAdd i else { s with deny := s.deny.remove i.card }
    let n := j.count a
    if rest.isEmpty then
      let s2 := { s1 with deny := { s1.deny with generation := j.generation, job := none } }
      (s2, some (s2.denyAnswer 0 n))
    else ({ s1 with deny := { s1.deny with job := some { j with rest := rest, notAdded := n } } }, none)

end Sys2Proof.Machine
end

