-- ==== Sys2Proof/Machine/Flash.lean ====
section
/-! DEFINITION. Chapter 10's flash operations: the lasting contents, which operation is taken next, and what the
journal makes of a result (R151, R158, R161 to R163, R171). -/

namespace Sys2Proof.Machine

/-! ## Lasting contents -/

/-- Program a slot, in the rising order of slot numbers. -/
def putSlot (n : Nat) (x : Slot) : List (Nat × Slot) → List (Nat × Slot)
  | [] => [(n, x)]
  | y :: ys =>
    if n < y.1 then (n, x) :: y :: ys
    else if n = y.1 then (n, x) :: ys
    else y :: putSlot n x ys

/-- What a slot holds, `none` when it is blank. -/
def Flash.slot (f : Flash) (n : Nat) : Option Slot := (f.slots.find? fun x => x.1 == n).map Prod.snd

/-- A page erased: its slots and its release marker blank. -/
def Flash.erasePage (f : Flash) (p : Nat) : Flash :=
  { f with
    slots := f.slots.filter fun x => slotPage x.1 != p
    releaseMarkers := f.releaseMarkers.filter fun q => q != p }

/-- A page's release marker programmed. -/
def Flash.markPage (f : Flash) (p : Nat) : Flash :=
  { f with releaseMarkers := f.releaseMarkers.filter (fun q => q != p) ++ [p] }

/-- A tariff area. -/
def Flash.area (f : Flash) : AreaId → Area
  | .one => f.areaOne
  | .two => f.areaTwo

/-- A tariff area replaced. -/
def Flash.setArea (f : Flash) : AreaId → Area → Flash
  | .one, a => { f with areaOne := a }
  | .two, a => { f with areaTwo := a }

/-- A block programmed into its place. -/
def putBlock (index : Nat) (data : List Byte) : List (Nat × List Byte) → List (Nat × List Byte)
  | [] => [(index, data)]
  | y :: ys =>
    if index < y.1 then (index, data) :: y :: ys
    else if index = y.1 then (index, data) :: ys
    else y :: putBlock index data ys

/-! ## Which operation is taken (R161, R162, R171) -/

/-- The operation of an erase queue's head. -/
def eraseHead (q : List Nat) : Option FlashOp := q.head?.map .pageRelease

/-- The operation of a tariff queue's head. -/
def tariffHead (q : List TariffOp) : Option FlashOp := q.head?.map fun op => .tariff op false

/-- The four turns of R162. -/
def State.nextTurn (s : State) : Option FlashOp :=
  if !s.journal.queue.isEmpty then some .record
  else if s.journal.free < 64 ∧ s.journal.eraseQueue ≠ [] then eraseHead s.journal.eraseQueue
  else if s.tariff.queue ≠ [] then tariffHead s.tariff.queue
  else eraseHead s.journal.eraseQueue

/-- The operation taken at this event: by R162 in RUN, the write queue alone in HOLDOVER, none otherwise (R164). -/
def State.nextOp (s : State) : Option FlashOp :=
  match s.store.run with
  | .run => s.nextTurn
  | .holdover _ => if s.journal.queue.isEmpty then none else some .record
  | .starting => none
  | .halt => none

/-- An idle flash store takes the next operation at the event (R161). -/
def State.flashKick (s : State) : State :=
  if s.store.supply && s.store.busy.isNone then { s with store := { s.store with busy := s.nextOp } } else s

/-- What closes every event: an idle flash store chooses (R161), and the service summary is judged against the state
before the event (R178). -/
def State.conclude (before after : State) : State := State.judgeService before after.flashKick

/-! ## Results for the journal (R151, R158, R163) -/

/-- The place the head of the write queue is programmed at: past a page's last slot the next page's first. -/
def Journal.target (j : Journal) : Nat × Nat :=
  if j.progSlot < 64 then (j.progPage, j.progSlot) else (nextPage j.pages 128 j.progPage, 0)

/-- The write position moves past the slot programmed. -/
def Journal.passSlot (j : Journal) : Journal :=
  { j with progPage := j.target.1, progSlot := j.target.2 + 1 }

/-- The flash slot of a page's slot. -/
def slotNumber (t : Nat × Nat) : Nat := t.1 * 64 + t.2

/-- The record program verified (R151, R163): the record stands in its slot and leaves the write queue. -/
def State.recordVerified (s : State) (r : Record) (rest : List Record) : State :=
  { s with
    flash := { s.flash with slots := putSlot (slotNumber s.journal.target) (.record r) s.flash.slots }
    journal := { s.journal.passSlot with queue := rest, newestProgrammed := r.sequence } }

/-- The record program failed (R151): the slot is torn; the head takes one more slot from the pool, or with no pool is
given up. -/
def State.recordTorn (s : State) (rest : List Record) : State :=
  let s1 := { s with
    flash := { s.flash with slots := putSlot (slotNumber s.journal.target) .torn s.flash.slots }
    journal := s.journal.passSlot }
  if 0 < s1.journal.pool then
    { s1 with journal := s1.journal.assignSlot.2 }.noteNearFull
  else
    ({ s1 with journal := { s1.journal.drop with queue := rest } }.attend fun a => { a with fault := true }).noteNearFull

/-- A page whose erase failed carries the marker programmed ahead of it, whether or not that program verified, and is
found RELEASED by the next scan (R163, R166); its slots are as they were or blank (a free value). -/
def Flash.erasedBadly (f : Flash) (p : Nat) (kept : Bool) : Flash :=
  (if kept then f else { f with slots := (f.erasePage p).slots }).markPage p

/-- A page release ended (R158): ERASED with 64 slots more, which may leave the journal near-full still (R153), or RETIRED
with FAULT. -/
def State.pageReleased (s : State) (p : Nat) (verified : Bool) : State :=
  let j := { s.journal with eraseQueue := s.journal.eraseQueue.filter fun q => q != p }
  if verified then
    { s with
      flash := s.flash.erasePage p
      journal := { j with pages := j.pages.set p .erased, free := j.free + 64 } }.noteNearFull
  else
    let kept := s.draw
    { kept.2 with
      flash := s.flash.erasedBadly p kept.1
      journal := { j with pages := j.pages.set p .retired } }.attend fun a => { a with fault := true }

/-- The operation in progress is over. -/
def State.opOver (s : State) : State := { s with store := { s.store with busy := none } }

end Sys2Proof.Machine
end

