-- ==== Sys2Proof/Machine/Tariff.lean ====
section
/-! DEFINITION. Chapter 2: the tariff image and its validation, loading, activation, and the day in force with the
amnesty expiry it hands on (R143). -/

namespace Sys2Proof.Machine

/-! ## The tariff image (12.6) -/

/-- A band set at an offset: its bands, as many as its count names, at most 8. -/
def bandsAt (b : List Byte) (offset : Nat) : List Band :=
  (List.range (min (numField b offset 1) 8)).map fun k =>
    { start := numField b (offset + 1 + 3 * k) 2, percent := numField b (offset + 3 + 3 * k) 1 }

/-- One row of the class table. -/
def classAt (b : List Byte) (k : Nat) : ClassRow :=
  let o := 927 + 8 * k
  { discount := numField b o 1, cap := numField b (o + 1) 2, overdraft := numField b (o + 3) 2,
    minEntry := numField b (o + 5) 2, freeTravel := numField b (o + 7) 1 != 0 }

/-- The contents of a tariff from its image. -/
def tariffOf (b : List Byte) : Tariff :=
  { version := numField b 0 2
    effectiveDay := numField b 2 2
    stations := (field b 16 255).map BitVec.toNat
    step := numField b 271 1
    fares := (List.range 256).map fun k => numField b (272 + 2 * k) 2
    weekday := bandsAt b 784
    saturday := bandsAt b 809
    sunday := bandsAt b 834
    holidays := (List.range (min (numField b 859 1) 32)).map fun k => numField b (860 + 2 * k) 2
    epochWeekday := numField b 924 1
    rollover := numField b 925 2
    classes := (List.range 8).map (classAt b)
    incompleteFee := numField b 991 2
    sameStationFee := numField b 993 2
    overstay := numField b 995 2
    grace := numField b 997 1
    retapWindow := numField b 998 1
    maxJourney := numField b 999 2
    skewTolerance := numField b 1001 1
    keys := (List.range 4).map fun k =>
      if natBit (numField b 1002 1) k then some (field b (1003 + 8 * k) 8) else none
    writeKey := numField b 1035 1 }

/-! ## Validation (R32) -/

/-- What a validation reads: the blocks in flash, the indexes taken, whether a program or the erase failed, the tariff
check to meet, and the version and effective day announced. -/
structure LoadFacts where
  blocks : List (Nat × List Byte)
  taken : List Nat
  failed : Bool
  check : Nat
  version : Nat
  effectiveDay : Nat

/-- The bytes of one block. -/
def blockBytes (blocks : List (Nat × List Byte)) (i : Nat) : List Byte :=
  match blocks.find? fun x => x.1 == i with
  | some x => x.2
  | none => []

/-- The image: blocks 0 to count − 1 in index order. -/
def LoadFacts.image (l : LoadFacts) (count : Nat) : List Byte := (List.range count).flatMap (blockBytes l.blocks)

/-- The block count the header carries. -/
def LoadFacts.count (l : LoadFacts) : Nat := numField (blockBytes l.blocks 0) 4 1

/-- Check 3: the taken indexes are exactly 0 to count − 1. -/
def exactly (taken : List Nat) (count : Nat) : Bool :=
  (List.range count).all taken.contains && taken.all fun i => decide (i < count)

/-- Starts strictly ascending. -/
def ascending : List Band → Bool
  | [] => true
  | [_] => true
  | a :: b :: rest => decide (a.start < b.start) && ascending (b :: rest)

/-- Check 7 for one band set. -/
def bandsValid (b : List Byte) (offset : Nat) : Bool :=
  decide (1 ≤ numField b offset 1) && decide (numField b offset 1 ≤ 8) && numField b (offset + 1) 2 == 0
    && ascending (bandsAt b offset)

/-- A band's fields lie in their ranges. -/
def Band.inRange (x : Band) : Bool := decide (x.start ≤ 1439) && decide (x.percent ≤ 250)

/-- A class row's fields lie in their ranges, its free-travel byte set or clear. -/
def classInRange (b : List Byte) (k : Nat) : Bool :=
  decide ((classAt b k).discount ≤ 100) && decide (numField b (934 + 8 * k) 1 ≤ 1)

/-- Check 8: every other field in the range of section 2.3. -/
def rangesValid (b : List Byte) (t : Tariff) : Bool :=
  t.stations.all (fun z => decide (z ≤ 16))
    && (t.weekday ++ t.saturday ++ t.sunday).all Band.inRange
    && decide (numField b 859 1 ≤ 32)
    && decide (t.epochWeekday ≤ 6) && decide (t.rollover ≤ 1439)
    && (List.range 8).all (classInRange b)
    && decide (t.grace ≤ 120) && decide (1 ≤ t.retapWindow) && decide (t.retapWindow ≤ 60)
    && decide (30 ≤ t.maxJourney) && decide (t.maxJourney ≤ 600) && decide (t.skewTolerance ≤ 10)
    && decide (t.writeKey ≤ 3)

/-- The key in a slot of the tariff, `none` when the slot is empty or there is no such slot. -/
def Tariff.key (t : Tariff) (slot : Nat) : Option (List Byte) := t.keys.getD slot none

/-- R32, its checks in their order: the first that fails, or the tariff. -/
def LoadFacts.validate (l : LoadFacts) : Except Reject Tariff :=
  let n := l.count
  let b := l.image n
  let t := tariffOf b
  if l.failed then .error .flash
  else if l.taken.contains 0 = false ∨ n < 17 ∨ 64 < n then .error .blockSet
  else if exactly l.taken n = false then .error .blockSet
  else if crc16 b ≠ l.check then .error .checkMismatch
  else if t.version ≠ l.version ∨ t.effectiveDay ≠ l.effectiveDay then .error .headerMismatch
  else if [1, 2, 5, 10, 20, 50, 100].contains t.step = false then .error .step
  else if bandsValid b 784 = false ∨ bandsValid b 809 = false ∨ bandsValid b 834 = false then .error .bands
  else if rangesValid b t = false then .error .range
  else if t.key t.writeKey = none then .error .noWriteKey
  else .ok t

/-! ## The day in force (R27, R143) -/

/-- The now-minute. -/
def State.minute (s : State) : Nat := s.time.counter / 60

/-- The rollover minute in force, 0 while the current tariff is NONE (2.2). -/
def State.rollover (s : State) : Nat :=
  match s.tariff.current with
  | some t => t.rollover
  | none => 0

/-- The operating day number of now. -/
def State.operatingDay (s : State) : Int := opDay s.minute s.rollover

/-- R143: windows more than 2880 minutes past are removed. -/
def State.expireAmnesty (s : State) : State :=
  { s with emergency := { s.emergency with
    amnesty := s.emergency.amnesty.filter fun w => decide (s.minute - w.toMinute ≤ 2880) } }

/-- Whether the time base finds a day rollover due. -/
def State.dayDiffers (s : State) : Bool := s.time.valid && s.time.day != some s.operatingDay

/-- The day in force becomes the operating day of now. -/
def State.setDay (s : State) : State := { s with time := { s.time with day := some s.operatingDay } }

/-! ## Activation (R35, R36) -/

/-- The area that is not the given one. -/
def AreaId.other : AreaId → AreaId
  | .one => .two
  | .two => .one

/-- The activation number that follows one; 1 follows the last, and a blank marker (R36). -/
def followingNumber : Option Nat → Nat
  | none => 1
  | some n => if n = 4294967295 then 1 else n + 1

/-- R36: the READY tariff becomes current. -/
def State.activate (s : State) (t : Tariff) : State :=
  let area := s.tariff.pendingArea
  let number := followingNumber (s.flash.area area.other).marker
  let s1 := { s with tariff := { s.tariff with current := some t, pendingArea := area.other, pending := pendingEmpty } }
  let s2 := if s1.dayDiffers then s1.setDay.expireAmnesty else s1
  { s2 with tariff := { s2.tariff with queue := s2.tariff.queue ++ [TariffOp.marker area number t.version] } }.attend
    fun a => { a with tariffActivated := true }

/-- The READY tariff whose effective day has come (R35). -/
def State.dueTariff (s : State) : Option Tariff :=
  if s.tariff.pending.state = .ready ∧ s.time.valid = true then
    s.tariff.pending.image.filter fun t => decide ((t.effectiveDay : Int) ≤ opDay s.minute t.rollover)
  else none

/-- The activation check (R35). -/
def State.activationCheck (s : State) : State :=
  match s.dueTariff with
  | some t => s.activate t
  | none => s

/-- The comparison of R27, with the rollover it may give; then the check of R35 against the READY tariff's own day. -/
def State.dayUpdate (s : State) : State :=
  (if s.dayDiffers then s.setDay.expireAmnesty else s).activationCheck

/-! ## Loading (R29 to R34) -/

/-- An entry of the tariff queue that belongs to the pending area: a marker belongs to the current one (R30). -/
def TariffOp.isLoad : TariffOp → Bool
  | .erase _ => true
  | .block _ _ _ => true
  | .completion _ _ => true
  | .marker _ _ _ => false

/-- The operation in progress, its result disregarded when it was the pending area's (R30). -/
def disregardLoad : Option FlashOp → Option FlashOp
  | some (.tariff op d) => some (.tariff op (d || op.isLoad))
  | b => b

/-- The pending area's entries leave the queue and an erase of it is placed there (R30, R34). -/
def State.discardLoad (s : State) : State :=
  { s with
    tariff := { s.tariff with
      queue := s.tariff.queue.filter (fun op => !op.isLoad) ++ [.erase s.tariff.pendingArea] }
    store := { s.store with busy := disregardLoad s.store.busy } }

/-- TARIFF_BEGIN (R30). -/
def State.tariffBegin (s : State) (version effectiveDay : Nat) : State × Answer :=
  let s1 := s.discardLoad
  ({ s1 with tariff := { s1.tariff with
      pending := { pendingEmpty with state := .loading, version := version, effectiveDay := effectiveDay } } },
   bare .ok)

/-- TARIFF_BLOCK (R31). -/
def State.tariffBlock (s : State) (index : Nat) (data : List Byte) : State × Answer :=
  if s.tariff.pending.state ≠ .loading then (s, bare .badState)
  else if data.length ≠ 64 ∨ 63 < index then (s, bare .badValue)
  else if s.tariff.pending.taken.contains index then (s, bare .badState)
  else if 4 ≤ s.tariff.queue.length then (s, bare .busy)
  else
    ({ s with tariff := { s.tariff with
      pending := { s.tariff.pending with taken := s.tariff.pending.taken ++ [index] }
      queue := s.tariff.queue ++ [.block s.tariff.pendingArea index data] } }, bare .ok)

/-- TARIFF_END (R33): in LOADING the answer waits for the validation. -/
def State.tariffEnd (s : State) (check : Nat) : State × Option Answer :=
  if s.tariff.pending.state ≠ .loading then (s, some (bare .badState))
  else ({ s with tariff := { s.tariff with pending := { s.tariff.pending with endCheck := some check } } }, none)

/-- TARIFF_CANCEL (R34). -/
def State.tariffCancel (s : State) : State × Answer :=
  if s.tariff.pending.state = .empty then (s, bare .ok)
  else
    let s1 := s.discardLoad
    ({ s1 with tariff := { s1.tariff with pending := pendingEmpty } }, bare .ok)

/-- The current version, 0 when there is none (R186). -/
def State.currentVersion (s : State) : Nat :=
  match s.tariff.current with
  | some t => t.version
  | none => 0

/-- TARIFF_INFO (R29, 12.9). -/
def State.tariffInfo (s : State) : Answer :=
  let p := s.tariff.pending
  okWith ([byte (bitsNat [s.tariff.current.isSome])] ++ beBytes 2 s.currentVersion
    ++ beBytes 2 (match s.tariff.current with | some t => t.effectiveDay | none => 0)
    ++ [byte p.state.code] ++ beBytes 2 p.version ++ beBytes 2 p.effectiveDay
    ++ [byte p.taken.length, byte (rejectCode p.reason)])

/-- The facts of the load in hand. -/
def State.loadFacts (s : State) (check : Nat) : LoadFacts :=
  { blocks := (s.flash.area s.tariff.pendingArea).blocks, taken := s.tariff.pending.taken,
    failed := s.tariff.pending.failed, check := check, version := s.tariff.pending.version,
    effectiveDay := s.tariff.pending.effectiveDay }

/-- The answer of a TARIFF_END: outcome and reason (12.9). -/
def endAnswer (outcome : Nat) (reason : Option Reject) : Answer := okWith [byte outcome, byte (rejectCode reason)]

/-- The load is rejected and its TARIFF_END answered (R33). -/
def State.rejectLoad (s : State) (r : Reject) : State :=
  { s with tariff := { s.tariff with
    pending := { s.tariff.pending with state := .rejected, reason := some r, endCheck := none } } }

/-- The check of a TARIFF_END whose load has no operation left in the queue (R33). -/
def State.validationDue (s : State) : Option Nat :=
  if s.tariff.pending.state = .loading ∧ s.tariff.queue.any TariffOp.isLoad = false then s.tariff.pending.endCheck
  else none

/-- TARIFF_VALIDATE (R32, R33). -/
def State.validateLoad (s : State) (check : Nat) : State × Option Answer :=
  match (s.loadFacts check).validate with
  | .error r => (s.rejectLoad r, some (endAnswer 2 (some r)))
  | .ok t =>
    ({ s with tariff := { s.tariff with
        pending := { s.tariff.pending with image := some t }
        queue := s.tariff.queue ++ [.completion s.tariff.pendingArea
          { version := t.version, effectiveDay := t.effectiveDay, blockCount := (s.loadFacts check).count,
            check := check }] } }, none)

/-! ## Results of tariff operations (R31, R33, R36, R40, R163) -/

/-- The tariff queue without its head, whose operation has ended. -/
def State.tariffOpLeaves (s : State) : State := { s with tariff := { s.tariff with queue := s.tariff.queue.tail } }

/-- A failed erase or block program dooms the load (R40). -/
def State.loadFailed (s : State) : State :=
  { s with tariff := { s.tariff with pending := { s.tariff.pending with failed := true } } }

/-- The completion record stands: READY, then the activation check, and the waiting TARIFF_END's answer (R33). -/
def State.completed (s : State) : State × Option Answer :=
  let asked := s.tariff.pending.endCheck.isSome
  let s1 := { s with tariff := { s.tariff with
    pending := { s.tariff.pending with state := .ready, endCheck := none } } }
  let s2 := s1.activationCheck
  (s2, if asked then some (endAnswer (if s2.tariff.pending.state = .ready then 0 else 1) none) else none)

/-- The completion record failed: REJECTED with FLASH (R33). -/
def State.completionFailed (s : State) : State × Option Answer :=
  (s.rejectLoad .flash, if s.tariff.pending.endCheck.isSome then some (endAnswer 2 (some .flash)) else none)

end Sys2Proof.Machine
end

