-- ==== Sys2Proof/Machine/Screening.lean ====
section
/-! DEFINITION. Chapter 1: what the authorization unit does with a PRESENT, a COMMIT, an ABORT and its deadlines. -/

namespace Sys2Proof.Machine

/-! ## The record check (R1 to R3) -/

/-- R1: every field in its range, a key in the slot the image names, and the record check. -/
def Tariff.accepts (t : Tariff) (i : CardImage) : Bool :=
  decide (i.card ≠ 0) && decide (i.cls ≤ 7) && decide (i.state ≤ 1)
    && decide (-99999 ≤ i.balance) && decide (i.balance ≤ 999999)
    && decide (i.entryTime ≤ 71582788) && decide (i.entryAisle ≤ 62) && decide (i.keyIndex ≤ 3)
    && (match t.key i.keyIndex with
        | some k => recordCheck k i == i.check
        | none => false)

/-- R2, R3: the write key's index first, then the check under that key. -/
def Tariff.sign (t : Tariff) (i : CardImage) : CardImage :=
  let j := { i with keyIndex := t.writeKey }
  { j with check := recordCheck ((t.key t.writeKey).getD []) j }

/-! ## Refusals (R14) -/

/-- A refusal without a sub-cause. -/
def refusal (r : Reason) : Response := .decision (.refused r none)

/-- An OUT_OF_SERVICE refusal. -/
def outOfServiceRefusal (c : SubCause) : Response := .decision (.refused .outOfService (some c))

/-! ## Steps 8 and 9 (R12, R13) -/

/-- The sighting entry a grant is recorded with (R62). -/
def State.grantSighting (s : State) (e : End) (t : Txn) : Sighting :=
  { card := t.card, kind := s.role e, fromEnd := e, outcome := .decided e, oldSeq := t.presSeq
    newSeq := if t.kind.isWrite then t.presSeq + 1 else t.presSeq
    balance := match t.image with | some i => i.balance | none => t.presBalance
    time := s.time.counter }

/-- The grant is recorded in the sighting table (R62). -/
def State.recordGrant (s : State) (e : End) (t : Txn) : State :=
  { s with sightings := recordSighting s.sightings (s.grantSighting e t) }

/-- Step 9 (R13), with the journal reservation held. -/
def State.claimAisle (s : State) (e : End) (t : Txn) : State × Response :=
  match s.claim e with
  | .reserved => ((((s.takeReservation e).recordGrant e t).enterGrant e t).settle, .decision t.decision)
  | .waits =>
    if s.params.waitDeadline = 0 then ({ s with journal := s.journal.release }, refusal .aisleBusy)
    else (((s.setWaiting e true).recordGrant e t).setCtx e (.waitAisle t s.params.waitDeadline), .pending)
  | .refused r sub => ({ s with journal := s.journal.release }, .decision (.refused r sub))

/-- Step 8 (R12), then step 9. -/
def State.claimJournal (s : State) (e : End) (t : Txn) : State × Response :=
  if s.journal.canReserve then { s with journal := s.journal.reserve }.claimAisle e t
  else (s, outOfServiceRefusal .journalFull)

/-! ## Steps 3 to 7 -/

/-- The flags a grant starts with: LIST_UNVERIFIED unless the deny list is COMPLETE (R9). -/
def State.listFlags (s : State) : Flags := { listUnverified := s.deny.state != .complete }

/-- A no-write grant (R10). -/
def State.noWriteTxn (s : State) (i : CardImage) (kind : GrantKind) (reference : Option Nat) : Txn :=
  { kind := kind, card := i.card, presSeq := i.sequence, presBalance := i.balance, entryStation := i.entryStation,
    charge := 0, image := none, flags := s.listFlags, previous := findSighting s.sightings i.card,
    reference := reference }

/-- A write grant (R11), its image signed with the write key (R3). The entry station its record will carry is the new
image's for an ENTRY, the presented one for an EXIT (R19). -/
def State.writeTxn (s : State) (e : End) (t : Tariff) (i : CardImage) (charge : Nat) (flags : Flags) (new : CardImage) :
    Txn :=
  { kind := match s.role e with | .entry => .entry | .exit => .exit
    card := i.card, presSeq := i.sequence, presBalance := i.balance
    entryStation := match s.role e with | .entry => new.entryStation | .exit => i.entryStation
    charge := charge, image := some (t.sign new)
    flags := { flags with listUnverified := s.listFlags.listUnverified }
    previous := findSighting s.sightings i.card, reference := none }

/-- The inputs the fare engine gets (R41). -/
def State.fareInput (s : State) (t : Tariff) (i : CardImage) : FareInput :=
  { image := i, now := s.time.counter, today := s.time.day.getD 0, tariff := t, station := s.params.stationCode,
    aisle := s.pins.aisleNumber, windows := s.emergency.amnesty }

/-- Step 7 (R11). -/
def State.roleStep (s : State) (e : End) (t : Tariff) (i : CardImage) : State × Response :=
  match computeFare (s.role e) (s.fareInput t i) with
  | .refuse r => (s, refusal r)
  | .grant charge flags new => s.claimJournal e (s.writeTxn e t i charge flags new)

/-- What the sighting table is asked (R10, R63). -/
def State.presentation (s : State) (e : End) (t : Tariff) (i : CardImage) : Presentation :=
  { image := i, atEnd := e, role := s.role e, entryEnd := s.params.orientation, station := s.params.stationCode,
    now := s.time.counter, retapWindow := t.retapWindow }

/-- The CLONE record (R69). -/
def cloneRecord (e : End) (i : CardImage) (expected : Nat) : RecordData :=
  { kind := .clone, atEnd := some e, card := some i.card, cardSeq := some i.sequence, reference := some expected }

/-- What a CLONE_SUSPECT answer leads to: the record, the local add, the attention flag (R10, R69). -/
def State.cloneFound (s : State) (e : End) (i : CardImage) (expected : Nat) : State :=
  (((s.append (cloneRecord e i expected)).aisleAdd i.card).attend fun a => { a with cloneDetected := true }).settle

/-- Step 6 (R10). -/
def State.sightingStep (s : State) (e : End) (t : Tariff) (i : CardImage) : State × Response :=
  match judge (s.lookupSighting i.card) (s.presentation e t i) with
  | .cloneSuspect expected => (s.cloneFound e i expected, refusal .cloneSuspect)
  | .alreadyGranted => (s, refusal .alreadyGranted)
  | .passback => (s, refusal .passback)
  | .retap => s.claimJournal e (s.noWriteTxn i .retap none)
  | .recovery ref => s.claimJournal e (s.noWriteTxn i .recovery (some ref))
  | .continue => s.roleStep e t i

/-- Step 5 (R9). -/
def State.denyStep (s : State) (e : End) (t : Tariff) (i : CardImage) : State × Response :=
  match s.deny.find i.card with
  | some d => (s.append (deniedRecord e i.card d.reason), refusal .denied)
  | none => s.sightingStep e t i

/-- Steps 3 and 4 (R8). -/
def State.imageStep (s : State) (e : End) (t : Tariff) (i : CardImage) : State × Response :=
  if t.accepts i = false then (s, refusal .recordInvalid)
  else if i.sequence = 65535 then (s, refusal .cardExhausted)
  else s.denyStep e t i

/-! ## The three requests -/

/-- PRESENT (R5): the late card goes, then the nine steps. -/
def State.present (s : State) (e : End) (i : CardImage) : State × Response :=
  let s1 := s.setLateCard e none
  match s1.serviceRefusal, s1.tariff.current with
  | some (r, sub), _ => (s1, .decision (.refused r sub))
  | none, none => (s1, outOfServiceRefusal .noTariff)
  | none, some t => if (s1.ctx e).live then (s1, .sequenceError) else s1.imageStep e t i

/-- The ENTRY or EXIT record of a commit (R19, R146). -/
def commitRecord (e : End) (t : Txn) : RecordData :=
  { kind := match t.kind with | .entry => .entry | _ => .exit
    atEnd := some e, flags := t.flags, card := some t.card, amount := some t.charge
    balance := some (match t.image with | some i => i.balance | none => t.presBalance)
    cardSeq := some (match t.image with | some i => i.sequence | none => t.presSeq)
    entryStation := some t.entryStation }

/-- A write grant completes (R19). -/
def State.completeWrite (s : State) (e : End) (t : Txn) : State :=
  let s1 := (s.appendReserved (commitRecord e t)).convert e t
  ((s1.setOutcome t.card (s.conversion t.flags.held).outcome).setCtx e .idle).settle

/-- COMMIT (R19). -/
def State.commit (s : State) (e : End) (card : Nat) : State × Response :=
  match s.ctx e with
  | .idle => (s, if s.au.lateCard.get e = some card then .commitLate else .noContext)
  | .waitAisle _ _ => (s, .sequenceError)
  | .decided t _ => if t.card = card then (s.completeWrite e t, .commitDone) else (s, .sequenceError)

/-- A decided transaction is given up (R20). -/
def State.giveUp (s : State) (e : End) (t : Txn) : State :=
  ({ s with
      journal := s.journal.release
      sightings := restoreSighting s.sightings t.card t.previous }.releaseReservation.setCtx e .idle).settle

/-- ABORT (R20). -/
def State.abort (s : State) (e : End) (card : Nat) : State × Response :=
  match s.ctx e with
  | .idle => (s, .noContext)
  | .waitAisle t _ => if t.card = card then ((s.withdraw e t).settle, .abortDone) else (s, .sequenceError)
  | .decided t _ => if t.card = card then (s.giveUp e t, .abortDone) else (s, .sequenceError)

/-! ## The deadlines -/

/-- The commit deadline runs out (R21). -/
def State.commitDeadline (s : State) (e : End) : State :=
  match s.ctx e with
  | .decided t _ => (s.unconfirm e t).settle
  | .idle => s
  | .waitAisle _ _ => s

/-- The wait deadline runs out (R18). -/
def State.waitDeadline (s : State) (e : End) : State :=
  match s.ctx e with
  | .waitAisle _ _ => (s.refuseWait e .aisleBusy none).settle
  | .idle => s
  | .decided _ _ => s

end Sys2Proof.Machine
end

