-- ==== Sys2Proof/Machine/EndPort.lean ====
section
/-! DEFINITION. The end ports (R174 to R178): the meanings of the commands a lane processor gives and of the AU's two
deadlines. -/

namespace Sys2Proof.Machine

/-! ## Requests (R177) -/

/-- The STATUS_REPORT at an end, as things stand (R177). -/
def State.statusReport (s : State) (e : End) : StatusReport :=
  { context := (s.ctx e).tag, aisle := s.aisle.state, owned := s.aisle.owned, credits := s.aisle.credits.length,
    lamps := s.drive.lamps.get e, summary := s.summary, decisionReady := (s.port e).decisionReady,
    serviceChanged := (s.port e).serviceChanged, overrun := (s.port e).overrun }

/-- STATUS: the report, then the three flags clear (R177). -/
def State.statusRequest (s : State) (e : End) : State × Response :=
  (s.setPort e { s.port e with decisionReady := false, serviceChanged := false, overrun := false },
    .statusReport (s.statusReport e))

/-- EVENTS_ENABLE: both enables from the byte's bits 0 and 1 (R177, 12.7). -/
def State.enablesRequest (s : State) (e : End) (b : Byte) : State × Response :=
  (s.setPort e { s.port e with enableDecision := natBit b.toNat 0, enableService := natBit b.toNat 1 },
    .enablesSet (natBit b.toNat 0) (natBit b.toNat 1))

/-- A taken request goes to its context or to the port itself (R177). -/
def State.serveEnd (s : State) (e : End) : EndRequest → State × Response
  | .present i => s.present e i
  | .commit c => s.commit e c
  | .abort c => s.abort e c
  | .status => s.statusRequest e
  | .eventsEnable b => s.enablesRequest e b

/-- Order 7 of R175: the request enters the request buffer, is taken, and its response is produced (R176). -/
def State.takeRequest (s : State) (e : End) (r : EndRequest) : State :=
  let a := (s.setPort e { s.port e with request := some r }).serveEnd e r
  a.1.respond e a.2

/-- OVERRUN is set at a port (R175, order 2). -/
def State.overrun (s : State) (e : End) : State := s.setPort e { s.port e with overrun := true }

/-- A request reaches its port: taken in RUN, discarded with OVERRUN while READY is held low for STARTING or HOLDOVER,
disregarded in HALT (R176, R179). -/
def State.endRequest (s : State) (e : End) (r : EndRequest) : State :=
  if s.running then State.conclude s (s.takeRequest e r)
  else if s.listening then s.overrun e
  else s

/-! ## Transfers (R174, R175) -/

/-- What the falling edge of select fixes (R174, R175). -/
def State.beginTransfer (s : State) (e : End) : Transfer :=
  match (s.port e).buffer with
  | some p =>
    { ready := s.ready e, outward := responseFrame (s.port e).overrun p.response, fromBuffer := true,
      overrunSent := (s.port e).overrun }
  | none => { ready := s.ready e, outward := emptyFrame, fromBuffer := false, overrunSent := false }

/-- A transfer that the port holds nothing of, its select having been low in a HALT or without supply: READY counts as low
at its falling edge, and nothing goes outward (R172, R176; assumption log 47). -/
def Transfer.forgotten : Transfer :=
  { ready := false, outward := emptyFrame, fromBuffer := false, overrunSent := false }

/-- The transfer that ends: the one in progress, one whose falling edge the port holds nothing of, or one that begins and
ends in this event (assumption log 8). -/
def State.transferNow (s : State) (e : End) : Transfer :=
  match (s.port e).transfer with
  | some t => t
  | none => if (s.port e).selectLow then .forgotten else s.beginTransfer e

/-- Select is high, and no transfer is held. -/
def EndPort.deselected (p : EndPort) : EndPort := { p with transfer := none, selectLow := false }

/-- What data-out carried over the bytes clocked: the frame, then bytes of 0. -/
def Transfer.sent (t : Transfer) (n : Nat) : List Byte := (t.outward ++ List.replicate n 0).take n

/-- A frame clocked out whole leaves the response buffer; OVERRUN and DECISION_READY follow (R174, R175, R178). -/
def EndPort.clockedOut (p : EndPort) (t : Transfer) : EndPort :=
  let q := p.emptied
  { q with
    overrun := if t.overrunSent then false else q.overrun
    decisionReady := if (p.buffer.map Posted.late).getD false && !q.holdsLate then false else q.decisionReady }

/-- The outward side of a transfer's end. -/
def State.endOutward (s : State) (e : End) (t : Transfer) (n : Nat) : State :=
  let p := if t.fromBuffer && decide (t.outward.length ≤ n) then (s.port e).clockedOut t else s.port e
  s.setPort e { p.deselected with dataOut := t.sent n }

/-- The requests a context takes, and so RUN alone (R164, R177). -/
def EndRequest.forContext : EndRequest → Bool
  | .present _ => true
  | .commit _ => true
  | .abort _ => true
  | .status => false
  | .eventsEnable _ => false

/-- The inward side of a transfer's end (R175): order 2 goes by the READY level of the falling edge, but a frame that ends
in STARTING is discarded (R179), and so is a PRESENT, COMMIT or ABORT that ends outside RUN (R164; assumption log 8). -/
def State.endInward (s : State) (e : End) (t : Transfer) (inward : List Byte) : State :=
  let judged := t.ready && s.store.run != .starting
  match judgeInward inward with
  | .nothing => s
  | .error r => if judged then s.respond e r else s.overrun e
  | .request r => if judged && (s.running || !r.forContext) then s.takeRequest e r else s.overrun e

/-! ## Meanings -/

/-- Every event of the part ends in a next state. -/
abbrev Outcome := Host.Outcome State Fault Refusal

/-- An event only RUN takes. -/
def State.inRun (s : State) (f : State → State) : State := if s.running then State.conclude s (f s) else s

/-- END_PORT_TRANSFER (R174 to R176). The clocks of a last partial byte carry nothing. In HALT and without supply only the
select line rises. -/
def execEndPortTransfer (e : End) (inward : List Byte) (_spareClocks : Nat) (s : State) : Outcome :=
  .next (if s.listening then
    let t := s.transferNow e
    State.conclude s ((s.endOutward e t inward.length).endInward e t inward)
  else s.setPort e (s.port e).deselected)

/-- PRESENT (R5). -/
def execPresent (e : End) (image : CardImage) (s : State) : Outcome := .next (s.endRequest e (.present image))

/-- COMMIT (R19). -/
def execCommit (e : End) (card : Nat) (s : State) : Outcome := .next (s.endRequest e (.commit card))

/-- ABORT (R20). -/
def execAbort (e : End) (card : Nat) (s : State) : Outcome := .next (s.endRequest e (.abort card))

/-- STATUS (R177). -/
def execStatus (e : End) (s : State) : Outcome := .next (s.endRequest e .status)

/-- EVENTS_ENABLE (R177). -/
def execEventsEnable (e : End) (enables : Byte) (s : State) : Outcome := .next (s.endRequest e (.eventsEnable enables))

/-- COMMIT_DEADLINE (R21). -/
def execCommitDeadline (e : End) (s : State) : Outcome := .next (s.inRun fun s => s.commitDeadline e)

/-- WAIT_DEADLINE (R18). -/
def execWaitDeadline (e : End) (s : State) : Outcome := .next (s.inRun fun s => s.waitDeadline e)

/-- Select falls: a port that listens fixes its transfer; one in HALT or without supply holds none (R172). A port whose
select is low already sees no falling edge. -/
def State.selectFalls (s : State) (e : End) : EndPort :=
  if (s.port e).selectLow || (s.port e).transfer.isSome then s.port e
  else { s.port e with
    selectLow := true, transfer := if s.listening then some (s.beginTransfer e) else (s.port e).transfer }

/-- TRANSFER_BEGIN (R174). -/
def execTransferBegin (e : End) (s : State) : Outcome := .next (s.setPort e (s.selectFalls e))

end Sys2Proof.Machine
end

