-- ==== Sys2Proof/Machine/Passage.lean ====
section
/-! DEFINITION. The events of the aisle itself: the passage monitor's reports (R115 to R118), the arbiter's timers
(R101, R106, R108), and their meanings. -/

namespace Sys2Proof.Machine

/-! ## The passage monitor (R115 to R118) -/

/-- R116: the side a body entered the flap zone from. -/
def entrySideOf (seenA seenB : Bool) : Side :=
  match seenA, seenB with
  | true, false => .a
  | false, true => .b
  | true, true => .unknown
  | false, false => .unknown

/-- R117: the crossing made when the flap zone clears. -/
def crossingOf (side : Option Side) (seenA seenB : Bool) : Option Dir :=
  match side with
  | some .a => if seenB then some .aToB else none
  | some .b => if seenA then some .bToA else none
  | some .unknown =>
    if seenB && !seenA then some .aToB
    else if seenA && !seenB then some .bToA
    else none
  | none => none

/-- The monitor's own state after a sample that leaves the zones as given (R115, R116, R118). -/
def Monitor.report (m : Monitor) (z : Zones) : Monitor :=
  let enters := z.zF && !m.zones.zF
  let leaves := m.zones.zF && !z.zF
  { m with
    zones := z
    settleA := if z.zA == m.zones.zA then m.settleA else 0
    settleF := if z.zF == m.zones.zF then m.settleF else 0
    settleB := if z.zB == m.zones.zB then m.settleB else 0
    entrySide :=
      if enters then some (entrySideOf (m.zones.zA || z.zA) (m.zones.zB || z.zB))
      else if leaves then none else m.entrySide
    loiter := if enters then some 0 else if leaves then none else m.loiter }

/-- The crossing a sample carries (R117). -/
def Monitor.crossing (m : Monitor) (z : Zones) : Option Dir :=
  if m.zones.zF && !z.zF then crossingOf m.entrySide (m.zones.zA || z.zA) (m.zones.zB || z.zB) else none

/-- The arbiter takes the zone changes of a sample: the reopen delay stops (R106), the attention goes when the flap zone
clears (R107). -/
def Arbiter.zones (a : Arbiter) (leaves : Bool) : Arbiter :=
  { a with reopenDelay := none, attention := a.attention && !leaves }

/-- The reports of one sample that changes a zone: to the flap drive, then to the arbiter (R118, R120). -/
def State.zoneSample (s : State) (z : Zones) : State :=
  if z = s.monitor.zones then s
  else
    let s1 := { s with monitor := s.monitor.report z }
    let s2 := if z.zF == s.monitor.zones.zF then s1 else s1.driveZone z.zF
    let s3 := { s2 with aisle := s2.aisle.zones (s.monitor.zones.zF && !z.zF) }
    (match s.monitor.crossing z with
      | some d => s3.cross d
      | none => s3).settle

/-- The beams of a zone that has settled at a level. -/
def Beams.settled (b : Beams) (old new : Zones) : Beams :=
  let side (changed level : Bool) (f : Filter) : Filter := if changed then filterAt level else f
  { b1 := side (old.zA != new.zA) new.zA b.b1, b2 := side (old.zA != new.zA) new.zA b.b2
    b3 := side (old.zF != new.zF) new.zF b.b3, b4 := side (old.zF != new.zF) new.zF b.b4
    b5 := side (old.zB != new.zB) new.zB b.b5, b6 := side (old.zB != new.zB) new.zB b.b6 }

/-- A sample of settled beams that leaves the zones as given. -/
def State.zoneChange (s : State) (z : Zones) : State :=
  { s with monitor := { s.monitor with beams := s.monitor.beams.settled s.monitor.zones z } }.zoneSample z

/-- LOITER (R107, R118). -/
def State.loiterEnds (s : State) : State :=
  let s1 := { s with monitor := { s.monitor with loiter := none } }
  if s.aisle.state = .emergency then s1
  else ({ s1 with aisle := { s1.aisle with attention := true } }.append { kind := .loiter }).settle

/-! ## The arbiter's timers -/

/-- The head credit's deadline runs out (R101). -/
def State.passageDeadline (s : State) : State :=
  match s.aisle.credits with
  | [] => s
  | c :: cs =>
    if c.deadline.isSome then
      ((s.popCredit c cs .unused).append (abandonedRecord c.fromEnd c.card c.kind)).settle
    else s

/-- The close-delay timer runs out (R108, R110). -/
def State.closeDelayEnds (s : State) : State :=
  if s.aisle.closeDelay.isSome then
    ({ s with aisle := { s.aisle with closeDelay := none } }.command .toClose).settle
  else s

/-- The reopen-delay timer runs out (R106). -/
def State.reopenDelayEnds (s : State) : State :=
  if s.aisle.reopenDelay.isSome then { s with aisle := { s.aisle with reopenDelay := some 0 } }.settle else s

/-! ## Meanings -/

/-- PASSAGE_DEADLINE (R101). -/
def execPassageDeadline (s : State) : Outcome := .next (s.inRun State.passageDeadline)

/-- ZONE_CHANGE (R115). -/
def execZoneChange (zones : Zones) (s : State) : Outcome := .next (s.inRun fun s => s.zoneChange zones)

/-- LOITER (R107): only a running loiter timer runs out. -/
def execLoiter (s : State) : Outcome :=
  .next (s.inRun fun s => if s.monitor.loiter.isSome then s.loiterEnds else s)

/-- CLOSE_DELAY_EXPIRY (R108). -/
def execCloseDelayExpiry (s : State) : Outcome := .next (s.inRun State.closeDelayEnds)

/-- REOPEN_DELAY_EXPIRY (R106). -/
def execReopenDelayExpiry (s : State) : Outcome := .next (s.inRun State.reopenDelayEnds)

end Sys2Proof.Machine
end

