-- ==== Sys2Proof/Machine/FlapEvents.lean ====
section
/-! DEFINITION. The events of the flap drive (R119 to R124, R129, R131) and of the EMERG input (R135), and their
meanings. -/

namespace Sys2Proof.Machine

/-! ## The flap drive -/

/-- The close-hold timer runs out (R120). -/
def State.closeHoldEnds (s : State) : State :=
  if s.drive.holdTimer.isSome then
    { s with drive := { s.drive with closeHold := false, holdTimer := none } }.settle
  else s

/-- A limit's accepted value (R119). -/
def Drive.setLimit (d : Drive) (l : Limit) (active : Bool) : Drive :=
  match l with
  | .openLimit => { d with openLimit := filterAt active }
  | .closedLimit => { d with closedLimit := filterAt active }

/-- What the drive does when a limit becomes active: its motion toward it ends (R119); STOPPED with no pause it returns
to rest (R122), whatever stopped it (assumption log 45). -/
def State.limitActive (s : State) (l : Limit) : State :=
  match s.drive.flap, l with
  | .opening, .openLimit => s.motionDone .openLimit
  | .closing, .closedLimit => s.motionDone .closedLimit
  | .stopped, _ => if s.drive.pause.isSome then s else s.restAt l
  | _, _ => s

/-- What the drive does when a limit becomes inactive (R122). -/
def State.limitInactive (s : State) (l : Limit) : State :=
  match s.drive.flap, l with
  | .closed, .closedLimit => { s with drive := { s.drive with flap := .stopped } }
  | .opened, .openLimit => { s with drive := { s.drive with flap := .stopped } }
  | .released, .openLimit => s.beginMotion .openLimit true
  | _, _ => s

/-- A limit's accepted value changes. -/
def State.limitChanges (s : State) (l : Limit) (active : Bool) : State :=
  let s1 := { s with drive := s.drive.setLimit l active }
  (if active then s1.limitActive l else s1.limitInactive l).settle

/-- A limit input's accepted value changes: in RUN the drive acts on it; in STARTING and HOLDOVER the filters sample too,
but the flaps are not moved and the drive stays as it is (R128, R133, R165; assumption log 20). -/
def State.limitEvent (s : State) (l : Limit) (active : Bool) : State :=
  if s.running then State.conclude s (s.limitChanges l active)
  else if s.listening then { s with drive := s.drive.setLimit l active }
  else s

/-- The running motion's timeout runs out (R119, R125). -/
def State.motionTimesOut (s : State) : State :=
  match s.drive.flap with
  | .opening => (s.enterFault .openTimeout).settle
  | .closing => (s.enterFault .closeTimeout).settle
  | _ => s

/-- An opening motion stops for a retry pause, or faults at the third stop (R124). -/
def State.stopOpening (s : State) : State :=
  let d := { s.drive with retryCount := s.drive.retryCount + 1 }
  if d.retryCount < 3 then
    { s with drive := { d with flap := .stopped, motion := none, obstructCount := 0, pause := some 500 } }
  else { s with drive := d }.enterFault .obstruction

/-- Whether the running motion counts obstructions: no release does, and no result lies above a threshold of 1023
(R123). -/
def State.obstructs (s : State) : Bool :=
  (s.drive.motion.map fun m => !m.release).getD false && decide (s.params.threshold < 1023)

/-- The obstruction count reaches 4 (R124). -/
def State.obstructed (s : State) : State :=
  if s.obstructs then
    match s.drive.flap with
    | .opening => s.stopOpening.settle
    | .closing => s.reverse.settle
    | _ => s
  else s

/-- The retry pause runs out (R124). -/
def State.pauseEnds (s : State) : State :=
  if s.drive.pause.isSome then { s with drive := { s.drive with pause := none } }.settle else s

/-- The length of the phase a generator enters (R129). -/
def Params.phase (p : Params) (g : BlinkGen) (high : Bool) : Nat :=
  match g, high with
  | .bg1, true => p.bg1High * 10
  | .bg1, false => p.bg1Low * 10
  | .bg2, true => p.bg2High * 10
  | .bg2, false => p.bg2Low * 10

/-- A generator's next phase. -/
def Blink.flip (b : Blink) (p : Params) (g : BlinkGen) : Blink :=
  { high := !b.high, remaining := p.phase g (!b.high) }

/-- A generator changes phase (R129). -/
def State.blink (s : State) (g : BlinkGen) : State :=
  match g with
  | .bg1 => { s with drive := { s.drive with bg1 := s.drive.bg1.flip s.params .bg1 } }
  | .bg2 => { s with drive := { s.drive with bg2 := s.drive.bg2.flip s.params .bg2 } }

/-! ## Meanings -/

/-- CLOSE_HOLD_EXPIRY (R120). -/
def execCloseHoldExpiry (s : State) : Outcome := .next (s.inRun State.closeHoldEnds)

/-- FLAP_LIMIT_REACHED (R119). The other limit keeps its filter: it is sampled on its own (assumption log 18). -/
def execFlapLimitReached (limit : Limit) (s : State) : Outcome := .next (s.limitEvent limit true)

/-- FLAP_LIMIT_LOST (R122). -/
def execFlapLimitLost (limit : Limit) (s : State) : Outcome := .next (s.limitEvent limit false)

/-- MOTION_TIMEOUT (R119). -/
def execMotionTimeout (s : State) : Outcome := .next (s.inRun State.motionTimesOut)

/-- OBSTRUCTION (R124). -/
def execObstruction (s : State) : Outcome := .next (s.inRun State.obstructed)

/-- RETRY_PAUSE_END (R124). -/
def execRetryPauseEnd (s : State) : Outcome := .next (s.inRun State.pauseEnds)

/-- BUZZER_PULSE_END (R131). -/
def execBuzzerPulseEnd (s : State) : Outcome :=
  .next (s.inRun fun s => { s with drive := { s.drive with buzzer := none } })

/-- BLINK_PHASE_CHANGE (R129): a generator runs in every run state but HALT. -/
def execBlinkPhaseChange (g : BlinkGen) (s : State) : Outcome := .next (if s.listening then s.blink g else s)

/-- The EMERG input holds a level. -/
def State.emergHolds (s : State) (level : Bool) : State :=
  { s with emergency := { s.emergency with input := filterAt level, settle := 0 } }

/-- EMERG_ASSERTED (R135): an input already asserted does not assert again. -/
def execEmergAsserted (s : State) : Outcome :=
  .next (s.inRun fun s =>
    if s.emergency.filtered then s.emergHolds true else (s.emergHolds true).emergAsserted)

/-- EMERG_DEASSERTED (R135). -/
def execEmergDeasserted (s : State) : Outcome :=
  .next (s.inRun fun s =>
    if s.emergency.filtered then (s.emergHolds false).emergDeasserted else s.emergHolds false)

/-- RELEASE_TIMER_EXPIRY (R135): only a running timer runs out. -/
def execReleaseTimerExpiry (s : State) : Outcome :=
  .next (s.inRun fun s => if s.emergency.releaseTimer.isSome then s.releaseTimerExpiry else s)

end Sys2Proof.Machine
end

