-- ==== Sys2Proof/Machine/Params.lean ====
section
/-! DEFINITION. The parameters of R184 by number, and the arbiter's and drive's station requests (R111, R126). -/

namespace Sys2Proof.Machine

/-! ## The table (R184) -/

/-- A parameter's range. -/
def paramRange : Nat → Option (Nat × Nat)
  | 1 => some (0, 255)
  | 2 => some (0, 1)
  | 3 => some (0, 1)
  | 4 => some (0, 1)
  | 5 => some (0, 7)
  | 6 => some (0, 7)
  | 7 => some (500, 5000)
  | 8 => some (0, 10000)
  | 9 => some (2, 30)
  | 10 => some (100, 2000)
  | 11 => some (500, 10000)
  | 12 => some (30, 1440)
  | 13 => some (2, 15)
  | 14 => some (1000, 10000)
  | 15 => some (300, 3000)
  | 16 => some (10, 100)
  | 17 => some (10, 100)
  | 18 => some (20, 500)
  | 19 => some (0, 1023)
  | 20 => some (1, 255)
  | 21 => some (1, 255)
  | 22 => some (1, 255)
  | 23 => some (1, 255)
  | 24 => some (100, 5000)
  | 25 => some (0, 120)
  | 26 => some (64, 4096)
  | _ => none

/-- The value in force of a numbered parameter. -/
def Params.value (p : Params) : Nat → Option Nat
  | 1 => some p.stationCode
  | 2 => some (match p.serviceMode with | .outOf => 0 | .inService => 1)
  | 3 => some (match p.orientation with | .a => 0 | .b => 1)
  | 4 => some (match p.aisleMode with | .normallyClosed => 0 | .normallyOpen => 1)
  | 5 => some p.priority.a
  | 6 => some p.priority.b
  | 7 => some p.commitDeadline
  | 8 => some p.waitDeadline
  | 9 => some p.passageTimeout
  | 10 => some p.closeDelay
  | 11 => some p.reopenDelay
  | 12 => some p.retention
  | 13 => some p.settleCount
  | 14 => some p.loiterLimit
  | 15 => some p.motionTimeout
  | 16 => some p.normalDuty
  | 17 => some p.thermalDuty
  | 18 => some p.blanking
  | 19 => some p.threshold
  | 20 => some p.bg1High
  | 21 => some p.bg1Low
  | 22 => some p.bg2High
  | 23 => some p.bg2Low
  | 24 => some p.buzzerDuration
  | 25 => some p.amnestyMargin
  | 26 => some p.nearFull
  | _ => none

/-- Store a parameter; the service mode is stored by the arbiter (R111). -/
def Params.put (p : Params) (n v : Nat) : Params :=
  match n with
  | 1 => { p with stationCode := v }
  | 3 => { p with orientation := if v = 0 then .a else .b }
  | 4 => { p with aisleMode := if v = 0 then .normallyClosed else .normallyOpen }
  | 5 => { p with priority := { p.priority with a := v } }
  | 6 => { p with priority := { p.priority with b := v } }
  | 7 => { p with commitDeadline := v }
  | 8 => { p with waitDeadline := v }
  | 9 => { p with passageTimeout := v }
  | 10 => { p with closeDelay := v }
  | 11 => { p with reopenDelay := v }
  | 12 => { p with retention := v }
  | 13 => { p with settleCount := v }
  | 14 => { p with loiterLimit := v }
  | 15 => { p with motionTimeout := v }
  | 16 => { p with normalDuty := v }
  | 17 => { p with thermalDuty := v }
  | 18 => { p with blanking := v }
  | 19 => { p with threshold := v }
  | 20 => { p with bg1High := v }
  | 21 => { p with bg1Low := v }
  | 22 => { p with bg2High := v }
  | 23 => { p with bg2Low := v }
  | 24 => { p with buzzerDuration := v }
  | 25 => { p with amnestyMargin := v }
  | 26 => { p with nearFull := v }
  | _ => p

/-- A value clamped into a range (R184). -/
def clamp (range : Nat × Nat) (v : Nat) : Nat := max range.1 (min range.2 v)

/-! ## Service mode (R111) -/

/-- The arbiter takes a service mode OUT. -/
def State.modeOut (s : State) : State :=
  match s.aisle.state with
  | .idle => { s with aisle := { s.aisle with state := .outOfService } }.command .toClose
  | .serving => s.refuseWaits .outOfService (some .stationMode)
  | .violation => s.refuseWaits .outOfService (some .stationMode)
  | .emergency => s
  | .outOfService => s

/-- The arbiter takes a service mode IN: only an aisle OUT_OF_SERVICE with no flap FAULT changes, to a free point. -/
def State.modeIn (s : State) : State :=
  if s.aisle.state = .outOfService ∧ s.drive.faulted = false then
    { s with aisle := { s.aisle with state := .idle, owned := none } }.command s.modeCommand
  else s

/-- MODE_SET, and a PARAM_SET of the service mode (R111, R184). -/
def State.setMode (s : State) (m : ServiceMode) : State :=
  let s1 := { s with params := { s.params with serviceMode := m } }
  (match m with
    | .outOf => s1.modeOut
    | .inService => s1.modeIn).settle

/-- A service mode's code (12.9). -/
def modeOf : Nat → Option ServiceMode
  | 0 => some .outOf
  | 1 => some .inService
  | _ => none

/-- MODE_SET with its code (R111). -/
def State.modeRequest (s : State) (code : Nat) : State × Answer :=
  match modeOf code with
  | some m => (s.setMode m, bare .ok)
  | none => (s, bare .badValue)

/-! ## PARAM_SET and PARAM_GET (R184) -/

/-- Whether the arbiter acts on a change of the parameter at once: aisle mode and priorities (R96, R110). -/
def paramSettles (n : Nat) : Bool := n == 4 || n == 5 || n == 6

/-- R153: a PARAM_SET that raises the near-full threshold to the free count or above sets the flag. -/
def State.noteRaised (s : State) (n old : Nat) : State :=
  if n = 26 ∧ old < s.params.nearFull then s.noteNearFull else s

/-- A clamped value is stored and acts as its owner's rule gives. -/
def State.storeParam (s : State) (n v : Nat) : State :=
  if n = 2 then s.setMode (if v = 0 then .outOf else .inService)
  else
    let s1 := { s with params := s.params.put n v }.noteRaised n s.params.nearFull
    if paramSettles n then s1.settle else s1

/-- PARAM_SET. -/
def State.paramSet (s : State) (n v : Nat) : State × Answer :=
  match paramRange n with
  | none => (s, bare .badValue)
  | some r => (s.storeParam n (clamp r v), okWith (beBytes 2 (clamp r v)))

/-- PARAM_GET. -/
def State.paramGet (s : State) (n : Nat) : Answer :=
  match s.params.value n with
  | some v => okWith (beBytes 2 v)
  | none => bare .badValue

/-! ## FAULT_CLEAR (R126) -/

/-- FAULT_CLEAR. -/
def State.faultClear (s : State) : State × Answer :=
  if s.standing then (s, bare .badState)
  else if s.drive.clearing then (s, bare .ok)
  else if s.drive.flap = .fault then
    ({ s with drive := { s.drive with clearing := true, retryCount := 0 } }.settle, bare .ok)
  else (s, bare .badState)

end Sys2Proof.Machine
end

