-- ==== Sys2Proof/Machine/Power.lean ====
section
/-! DEFINITION. Chapter 10's run states: holdover, the beginning of STARTING, the journal scan, the tariff reload and
the end of start-up (R39, R160, R164 to R173). -/

namespace Sys2Proof.Machine

/-! ## Holdover (R170, R171, R173) -/

/-- R23: holdover resolves one context. -/
def State.resolve (s : State) (e : End) : State :=
  match s.ctx e with
  | .idle => s
  | .decided t _ => s.unconfirm e t
  | .waitAisle t _ => s.withdraw e t

/-- R128: the drive stops where it is; a FAULT is kept. -/
def Drive.halted (d : Drive) : Drive :=
  { d with
    flap := if d.flap = .fault then .fault else .stopped
    motion := none, obstructCount := 0, closeHold := false, holdTimer := none, pause := none, clearing := false,
    buzzer := none }

/-- The marker of a page release cut off may have been programmed or not (R159, R171; a free value). -/
def State.abandonRelease (s : State) (p : Nat) : State :=
  let r := s.draw
  if r.1 then { r.2 with flash := r.2.flash.markPage p } else r.2

/-- An erase of a tariff area cut off leaves it without a completion record (R171). R171 says nothing of its marker and its
blocks: each, the marker and the blocks together, stands as it was or is blank, by a free value of its own (assumption log
5). -/
def State.abandonErase (s : State) (a : AreaId) : State :=
  let r := s.draw
  let q := r.2.draw
  let left : Area :=
    { blocks := if q.1 then (s.flash.area a).blocks else [], completion := none
      marker := if r.1 then (s.flash.area a).marker else none }
  { q.2 with flash := q.2.flash.setArea a left }

/-- The erase operations are abandoned at the start of holdover; programs are finished (R171). -/
def State.abandonOp (s : State) : State :=
  match s.store.busy with
  | some (.pageRelease p) => (s.abandonRelease p).opOver
  | some (.tariff (.erase a) _) => (s.abandonErase a).opOver
  | some .record => s
  | some (.tariff (.block _ _ _) _) => s
  | some (.tariff (.completion _ _) _) => s
  | some (.tariff (.marker _ _ _) _) => s
  | none => s

/-- A station request in progress is abandoned where it stands (R170). -/
def State.abandonRequest (s : State) : State :=
  { s with
    station := { s.station with inbound := none, reply := none, direction := false }
    deny := { s.deny with job := none }
    tariff := { s.tariff with pending := { s.tariff.pending with endCheck := none } } }

/-- Holdover starts, for a halt or for a restart, with the cause to follow (R93, R128, R144, R170, R173). -/
def State.startHoldover (s : State) (forHalt : Bool) (cause : Cause) : State :=
  let s1 := { s with store := { s.store with run := .holdover forHalt, cause := cause } }
  let s2 := (s1.resolve .a).resolve .b
  { s2 with
    drive := s2.drive.halted
    emergency := { s2.emergency with releaseTimer := none }
    aisle := { s2.aisle with closeDelay := none, reopenDelay := none } }.abandonRequest.abandonOp

/-! ## The beginning of STARTING (R165) -/

/-- Every block takes its reset values; the backup domain, flash and the inputs' levels stay. -/
def State.beginStarting (s : State) (cause : Cause) : State :=
  { pending := s.pending
    pins := { s.pins with aisleNumber := s.pins.straps.val }
    params := paramsReset
    au := authReset
    ports := { a := s.ports.a.restarted, b := s.ports.b.restarted }
    station := stationReset
    time := { s.time with day := none }
    tariff := tariffReset
    sightings := []
    deny := denyReset
    aisle := arbiterReset
    monitor := monitorReset s.monitor.beams
    drive := driveReset s.drive.openLimit s.drive.closedLimit
    emergency := sequencerReset s.emergency.input
    journal := journalReset
    store := { supply := true, run := .starting, cause := cause, busy := none, pfw := s.store.pfw.reset }
    flash := s.flash
    draws := s.draws }

/-! ## The journal scan (R160, R166, R167) -/

/-- What the scan finds a page to be before it knows the CURRENT one. -/
inductive Found where
  | erased
  | released
  | holding
  deriving DecidableEq, Repr

/-- R166. -/
def Flash.found (f : Flash) (p : Nat) : Found :=
  if f.releaseMarkers.contains p then .released
  else if (f.pageSlots p).isEmpty then .erased
  else .holding

/-- The slots that are not blank in the pages holding records. -/
def Flash.held (f : Flash) : List (Nat × Slot) := f.slots.filter fun x => f.found (slotPage x.1) == .holding

/-- The newest readable record with its slot number. -/
def newestIn (l : List (Nat × Slot)) : Option (Nat × Nat) :=
  l.foldl (fun best x =>
    match x.2, best with
    | .torn, b => b
    | .record r, none => some (r.sequence, x.1)
    | .record r, some b => if b.1 < r.sequence then some (r.sequence, x.1) else some b) none

/-- The first page after `p` in ring order that is not RELEASED, looking at most `n` pages on. -/
def Flash.nextUsable (f : Flash) : Nat → Nat → Nat
  | 0, p => p
  | n + 1, p => if f.found (pageAfter p) = .released then f.nextUsable n (pageAfter p) else pageAfter p

/-- Whether a page holds torn slots and no readable record. -/
def Flash.allTorn (f : Flash) (p : Nat) : Bool :=
  f.found p == .holding && (recordsIn (f.pageSlots p)).isEmpty

/-- The pages from `p` through the all-torn pages that follow it (R167), at most `n` more, and none a second time: where
every page without a marker holds torn slots alone the ring leads back to the page `start` it was followed from, and the
page before that one is the last, the model's choice (assumption log 31). -/
def Flash.follow (f : Flash) (start : Nat) : Nat → Nat → List Nat
  | 0, p => [p]
  | n + 1, p =>
    if f.allTorn (f.nextUsable 128 p) && f.nextUsable 128 p != start then p :: f.follow start n (f.nextUsable 128 p)
    else [p]

/-- The page the write order starts to be followed from: the newest record's; without a record the first page holding
torn slots, without either the first erased one, and none when every page is RELEASED (assumption log 31). -/
def Flash.basePage (f : Flash) : Option Nat :=
  match newestIn f.held with
  | some b => some (slotPage b.2)
  | none =>
    match (List.range 128).find? fun p => f.found p == .holding with
    | some p => some p
    | none => (List.range 128).find? fun p => f.found p == .erased

/-- The pages followed, the CURRENT page last. -/
def Flash.lastPages (f : Flash) : List Nat :=
  match f.basePage with
  | some p => f.follow p 127 p
  | none => []

/-- The CURRENT page (R167). -/
def Flash.currentPage (f : Flash) : Option Nat := f.lastPages.getLast?

/-- How many slots of a page stand before its last one that is not blank, that one included. -/
def Flash.usedSlots (f : Flash) (p : Nat) : Nat :=
  (f.pageSlots p).foldl (fun m x => max m (x.1 % 64 + 1)) 0

/-- The torn slots of a page from slot `k` on: those programmed and unreadable, and on the CURRENT page the blank ones
that lie before one that is not blank. -/
def Flash.tornFrom (f : Flash) (p k : Nat) : Nat :=
  if f.currentPage = some p then
    f.usedSlots p - k - (recordsIn ((f.pageSlots p).filter fun x => decide (k ≤ x.1 % 64))).length
  else ((f.pageSlots p).filter fun x => x.2 == .torn && decide (k ≤ x.1 % 64)).length

/-- The torn slots of the whole area (R167). -/
def Flash.tornCount (f : Flash) : Nat :=
  ((List.range 128).filter fun p => f.found p == .holding).foldl (fun n p => n + f.tornFrom p 0) 0

/-- The first slot after the newest readable record on its page. -/
def Flash.afterNewest (f : Flash) : Nat :=
  match newestIn f.held with
  | some b => b.2 % 64 + 1
  | none => 0

/-- The trailing torn slots (R167), each page followed counted once; with no readable record, all of theirs (assumption
log 31). -/
def Flash.trailingTorn (f : Flash) : Nat :=
  f.lastPages.foldl (fun n p => n + f.tornFrom p (if f.basePage = some p then f.afterNewest else 0)) 0

/-- The highest sequence found (R167). -/
def Flash.highestFound (f : Flash) : Nat :=
  (match newestIn f.held with | some b => b.1 | none => 0) + f.trailingTorn

/-- The lowest sequence held in a page without a release marker (R160). -/
def Flash.lowestHeld (f : Flash) : Option Nat :=
  (recordsIn f.held).foldl (fun m r => match m with | none => some r.sequence | some k => some (min k r.sequence)) none

/-- The state of a page after the scan. -/
def Flash.scannedPage (f : Flash) (current : Option Nat) (p : Nat) : PageState :=
  if current = some p then .current
  else
    match f.found p with
    | .erased => .erased
    | .released => .released
    | .holding => .written

/-- How many slots of the CURRENT page the scan leaves assigned: with no such page none is left to assign. -/
def Flash.scannedUse (f : Flash) : Option Nat → Nat
  | some p => f.usedSlots p
  | none => 64

/-- The journal the scan sets up (R160, R167). The release of every page found RELEASED is queued, in ring order from
the page after the CURRENT one, and from page 0 when there is none (R166).

The cursor is one above the mark: the lowest sequence held in a page without a release marker, the oldest uncollected one.
With no readable record in such a page it is START's sequence, also where a RELEASED page still holds a readable record
above the mark (assumption log 41); that is the model's choice (assumption log 56). -/
def Flash.scan (f : Flash) : Journal :=
  let current := f.currentPage
  let pages := (List.range 128).map (f.scannedPage current)
  let used := f.scannedUse current
  let highest := f.highestFound
  { lastSeq := highest, queue := [], pages := pages, page := current, used := used, progPage := current.getD 127,
    progSlot := used, free := 64 * pages.count .erased + (64 - used), reserved := 0, dropped := 0,
    cursor := f.lowestHeld.getD (highest + 1), mark := (f.lowestHeld.getD (highest + 1)) - 1,
    newestProgrammed := highest,
    eraseQueue := (ringFrom (current.getD 127)).filter fun p => f.scannedPage current p == .released }

/-! ## The tariff reload (R39) -/

/-- The tariff of an area against its completion record (R39). The facts of its load were lost with working memory; those
that R32's checks ask for are read from the area, the model's choice (assumption log 51): no operation failed, the blocks
programmed are the blocks taken, and version and effective day announced are the completion record's. -/
def Area.tariff (a : Area) : Option Tariff :=
  match a.completion with
  | none => none
  | some c =>
    let l : LoadFacts :=
      { blocks := a.blocks, taken := a.blocks.map Prod.fst, failed := false, check := c.check, version := c.version,
        effectiveDay := c.effectiveDay }
    match l.validate with
    | .ok t => some t
    | .error _ => none

/-- R39: which area is the current one, by the two markers. -/
def Flash.currentArea (f : Flash) : Option AreaId :=
  match f.areaOne.marker, f.areaTwo.marker with
  | none, none => none
  | some _, none => some .one
  | none, some _ => some .two
  | some m, some n =>
    if m = followingNumber (some n) then some .one
    else if n = followingNumber (some m) then some .two
    else if n ≤ m then some .one else some .two

/-- The READY tariff of an unmarked, complete and valid area. -/
def Area.pending (a : Area) : Option (Completion × Tariff) :=
  match a.marker, a.completion, a.tariff with
  | none, some c, some t => some (c, t)
  | _, _, _ => none

/-- The pending state rebuilt from an area (R39). An area whose erase a TARIFF_BEGIN queued and no power was left to perform
still holds the READY tariff that the TARIFF_BEGIN discarded, and it is READY again: the criterion of R39, and what R34 says of
a TARIFF_CANCEL, where R39's last sentence speaks of EMPTY; the model's reading (assumption log 54). Its block indexes taken, which TARIFF_INFO counts, are those programmed in
the area, the model's choice (assumption log 51). -/
def readyPending (a : Area) : Pending :=
  match a.pending with
  | some (c, t) =>
    { state := .ready, version := c.version, effectiveDay := c.effectiveDay, taken := a.blocks.map Prod.fst,
      failed := false, endCheck := none, reason := none, image := some t }
  | none => pendingEmpty

/-- The area that can hold the pending tariff: the one that is not current; with no marked area one that holds a READY
tariff, the first of the two (assumption log 33). -/
def Flash.pendingArea (f : Flash) : AreaId :=
  match f.currentArea with
  | some a => a.other
  | none => if f.areaOne.pending.isSome then .one else if f.areaTwo.pending.isSome then .two else .one

/-- The tariff store the reload sets up (R39). -/
def Flash.reload (f : Flash) : TariffStore :=
  { current := match f.currentArea with | some a => (f.area a).tariff | none => none
    pendingArea := f.pendingArea
    pending := readyPending (f.area f.pendingArea)
    queue := [] }

/-! ## The end of start-up (R168, R169) -/

/-- Step 3: the day in force without a rollover event, then the activation check (R27, R168). -/
def State.startDay (s : State) : State := (if s.time.valid then s.setDay else s).activationCheck

/-- The START record (R169, 12.4). -/
def startRecord (c : Cause) (torn : Nat) : RecordData := { kind := .start, reference := some (c.code * 65536 + torn) }

/-- The five steps of start-up, ending in RUN (R166 to R169, and the table of R169). -/
def State.endStarting (s : State) : State :=
  let s1 := { s with journal := s.flash.scan, tariff := s.flash.reload }.startDay
  let s2 := { s1.append (startRecord s.store.cause s.flash.tornCount) with store := { s.store with run := .run } }
  let s3 := if s2.time.valid then s2 else s2.attend fun a => { a with timeInvalid := true }
  s3.noteNearFull.settle

end Sys2Proof.Machine
end

