-- ==== Sys2Proof/Machine/Station.lean ====
section
/-! DEFINITION. The station port: how a frame is received, judged, routed to its owner and answered (R180 to R185), with
the requests of the time base and the journal (R25, R154 to R157). -/

namespace Sys2Proof.Machine

/-! ## Time base and journal requests -/

/-- The TIME_SET record (R25, R146). -/
def timeSetRecord (old : Option Nat) : RecordData := { kind := .timeSet, oldTime := old }

/-- TIME_SET (R25). -/
def State.timeSet (s : State) (seconds : Nat) : State × Answer :=
  if seconds < 86400 ∨ 4294967294 < seconds then (s, bare .badValue)
  else
    let old := if s.time.valid then some s.time.counter else none
    let s1 := { s with time := { s.time with counter := seconds, valid := true } }
    ((s1.append (timeSetRecord old)).dayUpdate, bare .ok)

/-- Whether the journal is near-full (R153). -/
def State.nearFull (s : State) : Bool := decide (s.journal.free ≤ s.params.nearFull)

/-- JOURNAL_INFO (R154, 12.7). A sequence past the four bytes' range is sent as its low 32 bits (assumption log 49). -/
def State.journalInfo (s : State) : Answer :=
  okWith (beBytes 4 s.oldestUncollected ++ beBytes 4 s.journal.lastSeq ++ beBytes 2 s.journal.free
    ++ [byte s.journal.reserved] ++ beBytes 2 s.journal.dropped ++ [byte (bitsNat [s.nearFull])])

/-- JOURNAL_READ, and JOURNAL_READ_NEXT from the read cursor (R155, R156). -/
def State.journalRead (s : State) (start n : Nat) : State × Answer :=
  if n < 1 ∨ 3 < n then (s, bare .badValue)
  else ({ s with journal := { s.journal with cursor := s.cursorAfter start n } }, okWith (recordsPayload (s.readFrom start n)))

/-- JOURNAL_RELEASE (R157). -/
def State.journalRelease (s : State) (limit : Nat) : State × Answer :=
  let s1 := s.releaseTo limit
  (s1, okWith (beBytes 4 s1.journal.mark))

/-! ## INFO and EVENTS_CLEAR (R185) -/

/-- The emergency byte of INFO (12.7). -/
def Sequencer.code (q : Sequencer) : Nat :=
  bitsNat [q.stage.isSome, q.stage == some .released, q.inputMark, q.stationMark]

/-- INFO (R185, 12.7). -/
def State.info (s : State) : Answer :=
  okWith ([byte s.store.run.code, byte s.pins.aisleNumber, byte s.params.stationCode, byte s.summary.code,
      byte (match s.params.serviceMode with | .outOf => 0 | .inService => 1), byte s.aisle.state.code,
      byte (dirCode s.aisle.owned), byte s.aisle.credits.length, byte s.emergency.code]
    ++ beBytes 4 s.time.counter ++ [byte (bitsNat [s.time.valid]), byte (bitsNat [s.tariff.current.isSome])]
    ++ beBytes 2 s.currentVersion ++ [byte s.tariff.pending.state.code] ++ beBytes 2 s.station.attention.toNat)

/-- EVENTS_CLEAR (R185). -/
def State.eventsClear (s : State) (mask : Nat) : State × Answer :=
  let s1 := s.attend fun a => a.clear mask
  (s1, okWith (beBytes 2 s1.station.attention.toNat))

/-! ## Routing (R183) -/

/-- An owner that answers within the event. -/
def answered (r : State × Answer) : State × Option Answer := (r.1, some r.2)

/-- R183's table: each request goes to its owner. A request with no answer yet holds the inbound buffer (R182). -/
def State.serve (s : State) : StationRequest → State × Option Answer
  | .info => (s, some s.info)
  | .timeSet t => answered (s.timeSet t)
  | .paramSet n v => answered (s.paramSet n v)
  | .paramGet n => (s, some (s.paramGet n))
  | .modeSet m => answered (s.modeRequest m)
  | .faultClear => answered s.faultClear
  | .emergencySet => answered s.emergencySet
  | .emergencyClear => answered s.emergencyClear
  | .amnestyAdd c f t => answered (s.amnestyAdd { station := c, fromMinute := f, toMinute := t })
  | .denyReload g => s.denyReload g
  | .denyAdd g is => s.denyUpdate true g is
  | .denyRemove g cs => s.denyUpdate false g (cs.map fun c => { card := c, reason := 0 })
  | .denyComplete g => s.denyComplete g
  | .denyInfo c => (s, some (s.denyInfo c))
  | .tariffBegin v d => answered (s.tariffBegin v d)
  | .tariffBlock i d => answered (s.tariffBlock i d)
  | .tariffEnd c => s.tariffEnd c
  | .tariffCancel => answered s.tariffCancel
  | .tariffInfo => (s, some s.tariffInfo)
  | .journalInfo => (s, some s.journalInfo)
  | .journalRead q n => answered (s.journalRead q n)
  | .journalReadNext n => answered (s.journalRead s.journal.cursor n)
  | .journalRelease l => answered (s.journalRelease l)
  | .eventsClear m => answered (s.eventsClear m)
  | .restart => (s, some (bare .ok))

/-- INFO is answered in every run state but HALT; the rest only in RUN (R164, R183). -/
def infoKind : Nat := 1

/-- The kind of RESTART. -/
def restartKind : Nat := 25

/-! ## The inbound buffer and the reply (R181, R182) -/

/-- The inbound buffer is released and no reply is in hand. -/
def State.freeInbound (s : State) : State :=
  { s with station := { s.station with inbound := none, reply := none } }

/-- A RESTART answered OK is in hand. -/
def State.restartAnswered (s : State) (kind : Nat) : Bool :=
  kind == restartKind && s.store.run == .run && (s.station.reply.map Reply.status) == some .ok

/-- The addressed frame in hand is done with: the buffer is freed, and a RESTART's holdover starts (R173, R182). -/
def State.requestOver (s : State) (kind : Nat) : State :=
  if s.restartAnswered kind then s.freeInbound.startHoldover false .stationRestart else s.freeInbound

/-- The request in the buffer is finished: a broadcast releases it, an addressed one has its reply in hand unless a
break has cancelled it (R182). -/
def State.finish (s : State) (a : Answer) : State :=
  match s.station.inbound with
  | none => s
  | some b =>
    if b.form = .broadcast then s.freeInbound
    else if b.cancelled then s.requestOver b.kind
    else { s with station := { s.station with
      reply := some { kind := b.kind, status := a.status, payload := a.payload } } }

/-- Finish when the owner has answered. -/
def State.finishIf (r : State × Option Answer) : State :=
  match r.2 with
  | some a => r.1.finish a
  | none => r.1

/-- The status the port gives itself to an addressed frame, before routing (R183). -/
def State.portStatus (s : State) (kind : Nat) (d : Decoded) : Option Status :=
  match d with
  | .unknownKind => some .unknown
  | .badLength => if s.running || kind == infoKind then some .badValue else some .notReady
  | .request _ => if s.running || kind == infoKind then none else some .notReady

/-- An accepted addressed frame (R183). -/
def State.takeAddressed (s : State) (kind : Nat) (d : Decoded) : State :=
  match s.portStatus kind d, d with
  | some st, _ => s.finish (bare st)
  | none, .request r => State.finishIf (s.serve r)
  | none, _ => s.finish (bare .badValue)

/-- An accepted broadcast frame (R181, R183). -/
def State.takeBroadcast (s : State) (kind : Nat) (d : Decoded) : State :=
  if broadcastKind kind then
    if s.running then
      match d with
      | .request r => State.finishIf (s.serve r)
      | .badLength => s.freeInbound
      | .unknownKind => s.freeInbound
    else s.freeInbound.attend fun a => { a with bcastMissed := true }
  else s.freeInbound

/-- A break begins a frame or ends whatever was received; before a reply begins it cancels it (R180, R182). -/
def State.lineBroken (s : State) : State :=
  let s1 := { s with station := { s.station with receive := .afterBreak } }
  match s.station.inbound with
  | none => s1
  | some b =>
    if b.form = .broadcast ∨ s.station.direction = true then s1
    else if s.station.reply.isSome then s1.requestOver b.kind
    else { s1 with station := { s1.station with inbound := some { b with cancelled := true } } }

/-- Whether an address byte is this aisle's number: a strapped 0 or 63 matches none (R181). -/
def State.addressed (s : State) (address : Nat) : Bool :=
  address == s.pins.aisleNumber && address != 0 && address != 63

/-- A well-formed frame after the address: the buffer is free or held (R181, orders 3 and 4), then R183. -/
def State.acceptFrame (s : State) (form : Form) (kind : Nat) (d : Decoded) : State :=
  if s.station.inbound.isSome then
    match form with
    | .broadcast => s.attend fun a => { a with bcastMissed := true }
    | .addressed => s
  else
    let s1 := { s with station := { s.station with inbound := some { form := form, kind := kind, cancelled := false } } }
    match form with
    | .addressed => s1.takeAddressed kind d
    | .broadcast => s1.takeBroadcast kind d

/-- The port waits for the next break. -/
def State.awaitBreak (s : State) : State := { s with station := { s.station with receive := .waitBreak } }

/-- A station request's frame arrives whole with its break, addressed to this aisle or broadcast (R180 to R183). -/
def State.requestFrame (s : State) (form : Form) (kind : Nat) (d : Decoded) : State :=
  let s1 := s.lineBroken.awaitBreak
  match form with
  | .broadcast => s1.acceptFrame .broadcast kind d
  | .addressed => if s1.addressed s1.pins.aisleNumber then s1.acceptFrame .addressed kind d else s1

/-- R181 orders 1 and 2 over the bytes of a frame, then the frame itself. -/
def State.judgeFrame (s : State) (bs : List Byte) : State :=
  let address := numField bs 0 1
  let n := numField bs 2 1
  let form : Option Form := if address = 63 then some .broadcast else if s.addressed address then some .addressed else none
  if bs.length < n + 4 ∨ 120 < n ∨ numField bs (n + 3) 1 ≠ crc8 (bs.take (n + 3)) then s
  else
    match form with
    | none => s
    | some f => s.acceptFrame f (numField bs 1 1) (decodeStation (numField bs 1 1) (field bs 3 n))

/-- The bit rates a sync may give (R180). -/
def rateTaken (rate : Nat) : Bool := decide (9312 ≤ rate) && decide (rate ≤ 237312)

/-- A frame's break, its sync at a bit rate, and its bytes (R180, R181). -/
def State.frameArrives (s : State) (rate : Nat) (bs : List Byte) : State :=
  let s1 := s.lineBroken.awaitBreak
  if rateTaken rate then { s1 with station := { s1.station with bitRate := some rate } }.judgeFrame bs else s1

/-- A frame the line carries while the part listens. -/
def State.onLine (s : State) (f : State → State) : State := if s.listening then State.conclude s (f s) else s

/-- A reply ready to begin: the request finished, its line not yet driven (R182). -/
def StationPort.replyReady (p : StationPort) : Bool := p.reply.isSome && !p.direction

/-- The reply begins (R182). -/
def State.replyBegins (s : State) : State :=
  if s.station.replyReady then { s with station := { s.station with direction := true } } else s

/-- The kind of the frame in hand. -/
def StationPort.kindInHand (p : StationPort) : Nat := (p.inbound.map Inbound.kind).getD 0

/-- The reply's last stop bit is sent (R182). -/
def State.replyEnds (s : State) : State :=
  match s.station.direction, s.station.reply with
  | true, some r =>
    { s with station := { s.station with direction := false, sent := replyBytes s.pins.aisleNumber r } }.requestOver
      s.station.kindInHand
  | _, _ => s

/-- A reply bit is received at another level than sent (R182). -/
def State.collides (s : State) : State :=
  if s.station.direction then
    ({ s with station := { s.station with direction := false } }.attend fun a => { a with collision := true }).requestOver
      s.station.kindInHand
  else s

end Sys2Proof.Machine
end

