-- ==== Sys2Proof/Machine/FlashEvents.lean ====
section
/-! DEFINITION. The ends of flash operations (R151, R158, R163, R171) and their meanings. Each event is one only while
its operation is in progress. -/

namespace Sys2Proof.Machine

/-- A result the flash store hands over in RUN or HOLDOVER (R161, R171). -/
def State.flashEvent (s : State) (f : State → State) : State := if s.listening then State.conclude s (f s) else s

/-! ## Journal operations -/

/-- The head record's program ends (R151, R163). -/
def State.recordDone (s : State) (verified : Bool) : State :=
  match s.store.busy, s.journal.queue with
  | some .record, r :: rest => if verified then s.opOver.recordVerified r rest else s.opOver.recordTorn rest
  | _, _ => s

/-- A page release ends (R158). -/
def State.releaseDone (s : State) (verified : Bool) : State :=
  match s.store.busy with
  | some (.pageRelease p) => s.opOver.pageReleased p verified
  | _ => s

/-! ## Tariff operations -/

/-- The tariff operation is over: its entry leaves the queue, unless TARIFF_BEGIN or TARIFF_CANCEL removed it already
(R30, R161). -/
def State.tariffOpOver (s : State) (disregard : Bool) : State := if disregard then s.opOver else s.opOver.tariffOpLeaves

/-- Flash after a verified tariff operation (2.6). -/
def Flash.afterOp (f : Flash) : TariffOp → Flash
  | .erase a => f.setArea a areaBlank
  | .block a i data => f.setArea a { f.area a with blocks := putBlock i data (f.area a).blocks }
  | .completion a c => f.setArea a { f.area a with completion := some c }
  | .marker a n _ => f.setArea a { f.area a with marker := some n }

/-- The operation's verified result stands in flash. -/
def State.tariffStands (s : State) (op : TariffOp) : State := { s with flash := s.flash.afterOp op }

/-- A failed erase may leave the area as it was or change it (R40; a free value). -/
def State.eraseFails (s : State) (a : AreaId) : State :=
  let r := s.draw
  if r.1 then r.2 else { r.2 with flash := r.2.flash.setArea a areaBlank }

/-- The erase of a tariff area ends (R40, R163). -/
def State.eraseDone (s : State) (verified : Bool) : State :=
  match s.store.busy with
  | some (.tariff (.erase a) d) =>
    let s1 := s.tariffOpOver d
    if verified then s1.tariffStands (.erase a)
    else if d then s1.eraseFails a
    else (s1.eraseFails a).loadFailed
  | _ => s

/-- A block program ends (R31, R163). -/
def State.blockDone (s : State) (verified : Bool) : State :=
  match s.store.busy with
  | some (.tariff (.block a i data) d) =>
    let s1 := s.tariffOpOver d
    if verified then s1.tariffStands (.block a i data)
    else if d then s1
    else s1.loadFailed
  | _ => s

/-- The completion record's program ends (R33, R163). -/
def State.completionDone (s : State) (verified : Bool) : State :=
  match s.store.busy with
  | some (.tariff (.completion a c) d) =>
    let s1 := s.tariffOpOver d
    let s2 := if verified then s1.tariffStands (.completion a c) else s1
    if d then s2
    else if verified then State.finishIf s2.completed
    else State.finishIf s2.completionFailed
  | _ => s

/-- The TARIFF_ACTIVATED record (R36, R146). -/
def activatedRecord (version : Nat) : RecordData := { kind := .tariffActivated, reference := some version }

/-- An activation marker's program ends (R36, R163). -/
def State.markerDone (s : State) (verified : Bool) : State :=
  match s.store.busy with
  | some (.tariff (.marker a n v) d) =>
    let s1 := s.tariffOpOver d
    if verified then (s1.tariffStands (.marker a n v)).append (activatedRecord v)
    else s1.attend fun f => { f with fault := true }
  | _ => s

/-! ## Meanings -/

/-- RECORD_PROGRAM_DONE (R151). -/
def execRecordProgramDone (verified : Bool) (s : State) : Outcome := .next (s.flashEvent fun s => s.recordDone verified)

/-- PAGE_RELEASE_DONE (R158). -/
def execPageReleaseDone (verified : Bool) (s : State) : Outcome := .next (s.flashEvent fun s => s.releaseDone verified)

/-- TARIFF_ERASE_DONE (R40). -/
def execTariffEraseDone (verified : Bool) (s : State) : Outcome := .next (s.flashEvent fun s => s.eraseDone verified)

/-- BLOCK_PROGRAM_DONE (R31). -/
def execBlockProgramDone (verified : Bool) (s : State) : Outcome := .next (s.flashEvent fun s => s.blockDone verified)

/-- COMPLETION_RECORD_DONE (R33). -/
def execCompletionRecordDone (verified : Bool) (s : State) : Outcome :=
  .next (s.flashEvent fun s => s.completionDone verified)

/-- ACTIVATION_MARKER_DONE (R36). -/
def execActivationMarkerDone (verified : Bool) (s : State) : Outcome := .next (s.flashEvent fun s => s.markerDone verified)

end Sys2Proof.Machine
end

