-- ==== Sys2Proof/Machine/PowerEvents.lean ====
section
/-! DEFINITION. The second's tick (R24, R27, R61) and the events of the supply, the reset pin and PFW (R164 to R173), and
their meanings. -/

namespace Sys2Proof.Machine

/-! ## The second (R24) -/

/-- What a counted second does in the part that is up: expired sighting entries go (R61), those among them that this very
count has made expired, where R61 says "the next second", the model's reading (assumption log 55); the day in force is
compared (R27) and the READY tariff's own day watched (R35). -/
def State.secondCounted (s : State) : State :=
  { s with sightings := purgeSightings s.params.retention s.time.counter s.sightings }.dayUpdate

/-- RUN or HOLDOVER: the working memory of the part's blocks is in use. -/
def State.working (s : State) : Bool :=
  s.store.supply && (match s.store.run with | .run => true | .holdover _ => true | .starting => false | .halt => false)

/-- The counter stops at its limit, the time becomes INVALID and its day absent (R24, R27). -/
def State.counterStops (s : State) : State :=
  { s with time := { counter := 4294967295, valid := false, day := none } }.attend fun a => { a with timeInvalid := true }

/-- The crystal counts one second, whatever the state of the rest of the part (R24). -/
def State.tickSecond (s : State) : State :=
  if 4294967295 ≤ s.time.counter then s
  else if s.time.counter + 1 = 4294967295 then
    (let s1 := s.counterStops
     if s.working then { s1 with sightings := purgeSightings s1.params.retention s1.time.counter s1.sightings } else s1)
  else
    let s1 := { s with time := { s.time with counter := s.time.counter + 1 } }
    if s.working then s1.secondCounted else s1

/-! ## Supply, reset pin, PFW -/

/-- What an operation cut off by the supply leaves in flash: nothing, a part, or the whole of it (assumption log 37; free
values). -/
def State.cutOp (s : State) : State :=
  match s.store.busy with
  | none => s
  | some .record =>
    let a := s.draw
    let b := a.2.draw
    (match a.1, b.1, s.journal.queue with
      | true, true, r :: _ =>
        { b.2 with flash := { b.2.flash with slots := putSlot (slotNumber s.journal.target) (.record r) b.2.flash.slots } }
      | true, false, _ =>
        { b.2 with flash := { b.2.flash with slots := putSlot (slotNumber s.journal.target) .torn b.2.flash.slots } }
      | _, _, _ => b.2)
  | some (.pageRelease p) =>
    let a := s.draw
    let b := a.2.draw
    if a.1 && b.1 then { b.2 with flash := b.2.flash.erasePage p }
    else if a.1 then { b.2 with flash := b.2.flash.markPage p }
    else b.2
  | some (.tariff (.erase x) _) => s.abandonErase x
  | some (.tariff op _) =>
    let a := s.draw
    if a.1 then { a.2 with flash := a.2.flash.afterOp op } else a.2

/-- The supply fails (R172): an operation in progress is cut off. -/
def State.supplyFails (s : State) : State :=
  let s1 := s.cutOp.opOver
  { s1 with store := { s1.store with supply := false } }

/-- A transfer in progress is forgotten; its select line stays as it is. -/
def EndPort.dropTransfer (p : EndPort) : EndPort := { p with transfer := none }

/-- No port has a transfer, a frame or a reply in progress, and the direction line is released (R172); a frame being
received is abandoned with it, and the port waits for a break (assumption log 53). -/
def State.quietPorts (s : State) : State :=
  { s with
    ports := { a := s.ports.a.dropTransfer, b := s.ports.b.dropTransfer }
    station := { s.station with receive := .waitBreak, inbound := none, reply := none, direction := false } }

/-- The run state becomes HALT, which holds no transfer at the ports (R172). -/
def State.enterHalt (s : State) : State := { s with store := { s.store with run := .halt } }.quietPorts

/-- The supply comes up from none (R24, R165): working memory, a transfer in progress included, was lost. -/
def State.supplyRises (s : State) (backupHeld : Bool) : State :=
  let s1 := if backupHeld then s else { s with time := { counter := 0, valid := false, day := none } }
  s1.quietPorts.beginStarting .powerOn

/-- PFW is taken asserted (R165, R170, R173). -/
def State.pfwTaken (s : State) : State :=
  let s1 := { s with store := { s.store with pfw := filterAt true } }
  match s.store.run with
  | .run => s1.startHoldover true .powerRestored
  | .starting => { s1 with store := { s1.store with cause := .powerRestored } }.enterHalt
  | .holdover false => { s1 with store := { s1.store with run := .holdover true, cause := .powerRestored } }
  | .holdover true => s1
  | .halt => s1

/-- PFW is taken deasserted (R170, R172): a HALT ends in a start-up. -/
def State.pfwGone (s : State) : State :=
  let s1 := { s with store := { s.store with pfw := filterAt false } }
  if s.store.run = .halt then s1.beginStarting .powerRestored else s1

/-- Holdover is over: the write queue is empty and no operation is in progress (R171). -/
def State.holdoverOver (s : State) : Bool := s.journal.queue.isEmpty && s.store.busy.isNone

/-- Holdover ends (R171, R173). -/
def State.endHoldover (s : State) : State :=
  match s.store.run with
  | .holdover true =>
    if s.store.pfw.accepted then s.enterHalt else s.beginStarting .powerRestored
  | .holdover false => s.beginStarting s.store.cause
  | .starting => s
  | .run => s
  | .halt => s

/-- The reset pin is asserted: it starts holdover for a restart in RUN (R173) and holds a start-up (R165). -/
def State.resetAsserted (s : State) : State :=
  let s1 := { s with pins := { s.pins with reset := true } }
  if s.running then s1.startHoldover false .resetPin else s1

/-- The reset pin is released: a start-up held by it begins again with cause RESET_PIN (R165), also where the pin was
asserted in the holdover of another restart or in HALT (assumption log 46). -/
def State.resetReleased (s : State) : State :=
  let s1 := { s with pins := { s.pins with reset := false } }
  if s.pins.reset && s.store.supply && s.store.run == .starting then s1.beginStarting .resetPin else s1

/-! ## Meanings -/

/-- SECOND_TICK (R24). -/
def execSecondTick (s : State) : Outcome := .next (State.conclude s s.tickSecond)

/-- SUPPLY_UP (R165): a supply that is up does not come up. -/
def execSupplyUp (backupHeld : Bool) (s : State) : Outcome := .next (if s.store.supply then s else s.supplyRises backupHeld)

/-- SUPPLY_LOSS (R172). -/
def execSupplyLoss (s : State) : Outcome := .next (if s.store.supply then s.supplyFails else s)

/-- RESET_PIN_ASSERTED (R173). -/
def execResetPinAsserted (s : State) : Outcome := .next (State.conclude s s.resetAsserted)

/-- RESET_PIN_RELEASED (R165). -/
def execResetPinReleased (s : State) : Outcome := .next s.resetReleased

/-- The PFW input holds a level already taken. -/
def State.pfwHolds (s : State) (level : Bool) : State := { s with store := { s.store with pfw := filterAt level } }

/-- PFW_ASSERTED (R170). -/
def execPfwAsserted (s : State) : Outcome :=
  .next (if s.store.supply then
    if s.store.pfw.accepted then s.pfwHolds true else State.conclude s s.pfwTaken
  else s)

/-- PFW_DEASSERTED (R172). -/
def execPfwDeasserted (s : State) : Outcome :=
  .next (if s.store.supply then
    if s.store.pfw.accepted then s.pfwGone else s.pfwHolds false
  else s)

/-- HOLDOVER_END (R171): the row alone ends a holdover that has nothing left to flush (assumption log 12). -/
def execHoldoverEnd (s : State) : Outcome := .next (if s.store.supply && s.holdoverOver then s.endHoldover else s)

/-- STARTUP_END (R169): a reset pin held asserted keeps the scan from beginning (R165). -/
def execStartupEnd (s : State) : Outcome :=
  .next (if s.store.supply && s.store.run == .starting && !s.pins.reset then State.conclude s s.endStarting else s)

end Sys2Proof.Machine
end

