-- ==== Sys2Proof/Machine/StationCommands.lean ====
section
/-! DEFINITION. The meanings of the station controller's requests (R183), of the steps of a deny update and a tariff load
that follow them, and of the station line's own events (R180 to R182). Each request is its frame arriving whole and
well-formed at the station port. -/

namespace Sys2Proof.Machine

/-! ## Requests -/

/-- INFO (R185). -/
def execInfo (s : State) : Outcome :=
  .next (s.onLine fun s => s.requestFrame .addressed (StationRequest.kind (.info)) (.request (.info)))

/-- TIME_SET (R25). -/
def execTimeSet (form : Form) (seconds : Nat) (s : State) : Outcome :=
  .next (s.onLine fun s => s.requestFrame form (StationRequest.kind (.timeSet seconds)) (.request (.timeSet seconds)))

/-- PARAM_SET (R184). -/
def execParamSet (number value : Nat) (s : State) : Outcome :=
  .next (s.onLine fun s => s.requestFrame .addressed (StationRequest.kind (.paramSet number value)) (.request (.paramSet number value)))

/-- PARAM_GET (R184). -/
def execParamGet (number : Nat) (s : State) : Outcome :=
  .next (s.onLine fun s => s.requestFrame .addressed (StationRequest.kind (.paramGet number)) (.request (.paramGet number)))

/-- MODE_SET (R111). -/
def execModeSet (form : Form) (mode : Nat) (s : State) : Outcome :=
  .next (s.onLine fun s => s.requestFrame form (StationRequest.kind (.modeSet mode)) (.request (.modeSet mode)))

/-- FAULT_CLEAR (R126). -/
def execFaultClear (s : State) : Outcome :=
  .next (s.onLine fun s => s.requestFrame .addressed (StationRequest.kind (.faultClear)) (.request (.faultClear)))

/-- EMERGENCY_SET (R136). -/
def execEmergencySet (form : Form) (s : State) : Outcome :=
  .next (s.onLine fun s => s.requestFrame form (StationRequest.kind (.emergencySet)) (.request (.emergencySet)))

/-- EMERGENCY_CLEAR (R136). -/
def execEmergencyClear (form : Form) (s : State) : Outcome :=
  .next (s.onLine fun s => s.requestFrame form (StationRequest.kind (.emergencyClear)) (.request (.emergencyClear)))

/-- AMNESTY_ADD (R142). -/
def execAmnestyAdd (form : Form) (station fromMinute toMinute : Nat) (s : State) : Outcome :=
  .next (s.onLine fun s => s.requestFrame form (StationRequest.kind (.amnestyAdd station fromMinute toMinute)) (.request (.amnestyAdd station fromMinute toMinute)))

/-- DENY_RELOAD (R82). -/
def execDenyReload (form : Form) (generation : Nat) (s : State) : Outcome :=
  .next (s.onLine fun s => s.requestFrame form (StationRequest.kind (.denyReload generation)) (.request (.denyReload generation)))

/-- DENY_ADD (R81, R83, R86): judged; a frame that is due is then taken entry by entry (DENY_ENTRY_APPLY). -/
def execDenyAdd (form : Form) (generation : Nat) (items : List DenyItem) (s : State) : Outcome :=
  .next (s.onLine fun s => s.requestFrame form (StationRequest.kind (.denyAdd generation items)) (.request (.denyAdd generation items)))

/-- DENY_REMOVE (R81, R84, R86): judged; a frame that is due is then taken number by number (DENY_ENTRY_APPLY). -/
def execDenyRemove (form : Form) (generation : Nat) (cards : List Nat) (s : State) : Outcome :=
  .next (s.onLine fun s => s.requestFrame form (StationRequest.kind (.denyRemove generation cards)) (.request (.denyRemove generation cards)))

/-- DENY_COMPLETE (R85). -/
def execDenyComplete (form : Form) (generation : Nat) (s : State) : Outcome :=
  .next (s.onLine fun s => s.requestFrame form (StationRequest.kind (.denyComplete generation)) (.request (.denyComplete generation)))

/-- DENY_INFO (R87). -/
def execDenyInfo (card : Option Nat) (s : State) : Outcome :=
  .next (s.onLine fun s => s.requestFrame .addressed (StationRequest.kind (.denyInfo card)) (.request (.denyInfo card)))

/-- TARIFF_BEGIN (R30). -/
def execTariffBegin (version effectiveDay : Nat) (s : State) : Outcome :=
  .next (s.onLine fun s => s.requestFrame .addressed (StationRequest.kind (.tariffBegin version effectiveDay)) (.request (.tariffBegin version effectiveDay)))

/-- TARIFF_BLOCK (R31): a payload that is not an index and 64 bytes has a length its kind does not take (R183). -/
def execTariffBlock (index : Nat) (data : List Byte) (s : State) : Outcome :=
  .next (s.onLine fun s => s.requestFrame .addressed (StationRequest.kind (.tariffBlock index data)) (if data.length = 64 then .request (.tariffBlock index data) else .badLength))

/-- TARIFF_END (R33). -/
def execTariffEnd (check : Nat) (s : State) : Outcome :=
  .next (s.onLine fun s => s.requestFrame .addressed (StationRequest.kind (.tariffEnd check)) (.request (.tariffEnd check)))

/-- TARIFF_CANCEL (R34). -/
def execTariffCancel (s : State) : Outcome :=
  .next (s.onLine fun s => s.requestFrame .addressed (StationRequest.kind (.tariffCancel)) (.request (.tariffCancel)))

/-- TARIFF_INFO (R29). -/
def execTariffInfo (s : State) : Outcome :=
  .next (s.onLine fun s => s.requestFrame .addressed (StationRequest.kind (.tariffInfo)) (.request (.tariffInfo)))

/-- JOURNAL_INFO (R154). -/
def execJournalInfo (s : State) : Outcome :=
  .next (s.onLine fun s => s.requestFrame .addressed (StationRequest.kind (.journalInfo)) (.request (.journalInfo)))

/-- JOURNAL_READ (R155). -/
def execJournalRead (start count : Nat) (s : State) : Outcome :=
  .next (s.onLine fun s => s.requestFrame .addressed (StationRequest.kind (.journalRead start count)) (.request (.journalRead start count)))

/-- JOURNAL_READ_NEXT (R156). -/
def execJournalReadNext (count : Nat) (s : State) : Outcome :=
  .next (s.onLine fun s => s.requestFrame .addressed (StationRequest.kind (.journalReadNext count)) (.request (.journalReadNext count)))

/-- JOURNAL_RELEASE (R157). -/
def execJournalRelease (limit : Nat) (s : State) : Outcome :=
  .next (s.onLine fun s => s.requestFrame .addressed (StationRequest.kind (.journalRelease limit)) (.request (.journalRelease limit)))

/-- EVENTS_CLEAR (R185). -/
def execEventsClear (mask : Nat) (s : State) : Outcome :=
  .next (s.onLine fun s => s.requestFrame .addressed (StationRequest.kind (.eventsClear mask)) (.request (.eventsClear mask)))

/-- RESTART (R173): its holdover starts when the answer has been sent, has collided or is cancelled. -/
def execRestart (s : State) : Outcome :=
  .next (s.onLine fun s => s.requestFrame .addressed (StationRequest.kind (.restart)) (.request (.restart)))

/-! ## What follows a request -/

/-- One entry of the deny frame in hand (R89). -/
def State.denyStepEntry (s : State) : State :=
  match s.deny.job with
  | some j => (State.finishIf (s.denyEntry j)).settle
  | none => s

/-- DENY_ENTRY_APPLY (R89). -/
def execDenyEntryApply (s : State) : Outcome := .next (s.inRun State.denyStepEntry)

/-- The load in hand is validated once its operations are done (R32, R33). -/
def State.validationStep (s : State) : State :=
  match s.validationDue with
  | some c => State.finishIf (s.validateLoad c)
  | none => s

/-- TARIFF_VALIDATE (R32). -/
def execTariffValidate (s : State) : Outcome := .next (s.inRun State.validationStep)

/-! ## The station line -/

/-- STATION_FRAME (R180, R181). -/
def execStationFrame (bitRate : Nat) (bytes : List Byte) (s : State) : Outcome :=
  .next (s.onLine fun s => s.frameArrives bitRate bytes)

/-- LINE_BREAK (R180). -/
def execLineBreak (s : State) : Outcome := .next (s.onLine State.lineBroken)

/-- STATION_REPLY (R182). -/
def execStationReply (s : State) : Outcome := .next (s.onLine State.replyBegins)

/-- STATION_REPLY_END (R182). -/
def execStationReplyEnd (s : State) : Outcome := .next (s.onLine State.replyEnds)

/-- COLLISION (R182). -/
def execCollision (s : State) : Outcome := .next (s.onLine State.collides)

/-- INCOMPLETE_FRAME (R180): the port waits for the next break. -/
def execIncompleteFrame (s : State) : Outcome := .next (s.onLine State.awaitBreak)

/-- FRAMING_ERROR (R180): the frame is ignored and the port waits for the next break. -/
def execFramingError (s : State) : Outcome := .next (s.onLine fun s => s.awaitBreak)

end Sys2Proof.Machine
end

