-- ==== Sys2Proof/Machine/Dispatch.lean ====
section
/-! DEFINITION. What each command does: one arm for each, each a call of its meaning. -/

namespace Sys2Proof.Machine

def exec (i : Instr) (s : State) : Host.Outcome State Fault Refusal :=
  match i with
  | .endPortTransfer e inward spareClocks => Sys2Proof.Machine.execEndPortTransfer e inward spareClocks s
  | .present e image => Sys2Proof.Machine.execPresent e image s
  | .commit e card => Sys2Proof.Machine.execCommit e card s
  | .abort e card => Sys2Proof.Machine.execAbort e card s
  | .status e => Sys2Proof.Machine.execStatus e s
  | .eventsEnable e enables => Sys2Proof.Machine.execEventsEnable e enables s
  | .commitDeadline e => Sys2Proof.Machine.execCommitDeadline e s
  | .waitDeadline e => Sys2Proof.Machine.execWaitDeadline e s
  | .passageDeadline => Sys2Proof.Machine.execPassageDeadline s
  | .zoneChange zones => Sys2Proof.Machine.execZoneChange zones s
  | .loiter => Sys2Proof.Machine.execLoiter s
  | .closeDelayExpiry => Sys2Proof.Machine.execCloseDelayExpiry s
  | .reopenDelayExpiry => Sys2Proof.Machine.execReopenDelayExpiry s
  | .closeHoldExpiry => Sys2Proof.Machine.execCloseHoldExpiry s
  | .flapLimitReached limit => Sys2Proof.Machine.execFlapLimitReached limit s
  | .flapLimitLost limit => Sys2Proof.Machine.execFlapLimitLost limit s
  | .motionTimeout => Sys2Proof.Machine.execMotionTimeout s
  | .obstruction => Sys2Proof.Machine.execObstruction s
  | .retryPauseEnd => Sys2Proof.Machine.execRetryPauseEnd s
  | .buzzerPulseEnd => Sys2Proof.Machine.execBuzzerPulseEnd s
  | .blinkPhaseChange g => Sys2Proof.Machine.execBlinkPhaseChange g s
  | .secondTick => Sys2Proof.Machine.execSecondTick s
  | .emergAsserted => Sys2Proof.Machine.execEmergAsserted s
  | .emergDeasserted => Sys2Proof.Machine.execEmergDeasserted s
  | .releaseTimerExpiry => Sys2Proof.Machine.execReleaseTimerExpiry s
  | .info => Sys2Proof.Machine.execInfo s
  | .timeSet form seconds => Sys2Proof.Machine.execTimeSet form seconds s
  | .paramSet number value => Sys2Proof.Machine.execParamSet number value s
  | .paramGet number => Sys2Proof.Machine.execParamGet number s
  | .modeSet form mode => Sys2Proof.Machine.execModeSet form mode s
  | .faultClear => Sys2Proof.Machine.execFaultClear s
  | .emergencySet form => Sys2Proof.Machine.execEmergencySet form s
  | .emergencyClear form => Sys2Proof.Machine.execEmergencyClear form s
  | .amnestyAdd form station fromMinute toMinute => Sys2Proof.Machine.execAmnestyAdd form station fromMinute toMinute s
  | .denyReload form generation => Sys2Proof.Machine.execDenyReload form generation s
  | .denyAdd form generation items => Sys2Proof.Machine.execDenyAdd form generation items s
  | .denyRemove form generation cards => Sys2Proof.Machine.execDenyRemove form generation cards s
  | .denyEntryApply => Sys2Proof.Machine.execDenyEntryApply s
  | .denyComplete form generation => Sys2Proof.Machine.execDenyComplete form generation s
  | .denyInfo card => Sys2Proof.Machine.execDenyInfo card s
  | .tariffBegin version effectiveDay => Sys2Proof.Machine.execTariffBegin version effectiveDay s
  | .tariffBlock index data => Sys2Proof.Machine.execTariffBlock index data s
  | .tariffEnd check => Sys2Proof.Machine.execTariffEnd check s
  | .tariffValidate => Sys2Proof.Machine.execTariffValidate s
  | .tariffCancel => Sys2Proof.Machine.execTariffCancel s
  | .tariffInfo => Sys2Proof.Machine.execTariffInfo s
  | .journalInfo => Sys2Proof.Machine.execJournalInfo s
  | .journalRead start count => Sys2Proof.Machine.execJournalRead start count s
  | .journalReadNext count => Sys2Proof.Machine.execJournalReadNext count s
  | .journalRelease limit => Sys2Proof.Machine.execJournalRelease limit s
  | .eventsClear mask => Sys2Proof.Machine.execEventsClear mask s
  | .restart => Sys2Proof.Machine.execRestart s
  | .stationFrame bitRate bytes => Sys2Proof.Machine.execStationFrame bitRate bytes s
  | .lineBreak => Sys2Proof.Machine.execLineBreak s
  | .stationReply => Sys2Proof.Machine.execStationReply s
  | .stationReplyEnd => Sys2Proof.Machine.execStationReplyEnd s
  | .collision => Sys2Proof.Machine.execCollision s
  | .recordProgramDone verified => Sys2Proof.Machine.execRecordProgramDone verified s
  | .pageReleaseDone verified => Sys2Proof.Machine.execPageReleaseDone verified s
  | .tariffEraseDone verified => Sys2Proof.Machine.execTariffEraseDone verified s
  | .blockProgramDone verified => Sys2Proof.Machine.execBlockProgramDone verified s
  | .completionRecordDone verified => Sys2Proof.Machine.execCompletionRecordDone verified s
  | .activationMarkerDone verified => Sys2Proof.Machine.execActivationMarkerDone verified s
  | .supplyUp backupHeld => Sys2Proof.Machine.execSupplyUp backupHeld s
  | .supplyLoss => Sys2Proof.Machine.execSupplyLoss s
  | .resetPinAsserted => Sys2Proof.Machine.execResetPinAsserted s
  | .resetPinReleased => Sys2Proof.Machine.execResetPinReleased s
  | .pfwAsserted => Sys2Proof.Machine.execPfwAsserted s
  | .pfwDeasserted => Sys2Proof.Machine.execPfwDeasserted s
  | .holdoverEnd => Sys2Proof.Machine.execHoldoverEnd s
  | .startupEnd => Sys2Proof.Machine.execStartupEnd s
  | .transferBegin e => Sys2Proof.Machine.execTransferBegin e s
  | .incompleteFrame => Sys2Proof.Machine.execIncompleteFrame s
  | .framingError => Sys2Proof.Machine.execFramingError s

end Sys2Proof.Machine
end

