-- ==== Sys2Proof/Machine/Tick.lean ====
section
/-! DEFINITION. One millisecond with no command (assumption log 4): the running timers count, the inputs are sampled
(R114, R115, R123, R135, R170), and the timers that have run out are taken. Each event found is the one the row of its
name takes. -/

namespace Sys2Proof.Machine

/-! ## Counting -/

/-- A running timer, one millisecond on. -/
def countDown (t : Option Nat) : Option Nat := t.map (· - 1)

/-- A context's deadline, one millisecond on. -/
def Ctx.countDown : Ctx → Ctx
  | .idle => .idle
  | .waitAisle t d => .waitAisle t (d - 1)
  | .decided t d => .decided t (d - 1)

/-- The head credit's deadline, one millisecond on; credits behind it have none (R101). -/
def Credit.countDown (c : Credit) : Credit := { c with deadline := Machine.countDown c.deadline }

/-- A generator's phase, one millisecond on. -/
def Blink.countDown (b : Blink) : Blink := { b with remaining := b.remaining - 1 }

/-- A motion one millisecond on: its timeout and its blanking, which is over after its last millisecond (R119, R123). -/
def Motion.countDown (m : Motion) : Motion :=
  { m with remaining := m.remaining - 1, blanking := m.blanking.bind fun n => if n = 0 then none else some (n - 1) }

/-- Every timer of RUN counts. -/
def State.countTimers (s : State) : State :=
  { s with
    au := { s.au with ctx := { a := s.au.ctx.a.countDown, b := s.au.ctx.b.countDown } }
    aisle := { s.aisle with
      credits := s.aisle.credits.map Credit.countDown
      closeDelay := countDown s.aisle.closeDelay, reopenDelay := countDown s.aisle.reopenDelay }
    drive := { s.drive with
      motion := s.drive.motion.map Motion.countDown
      holdTimer := countDown s.drive.holdTimer, pause := countDown s.drive.pause, buzzer := countDown s.drive.buzzer }
    emergency := { s.emergency with releaseTimer := countDown s.emergency.releaseTimer }
    monitor := { s.monitor with loiter := s.monitor.loiter.map (· + 1) } }

/-- The blink generators count. -/
def State.countBlinks (s : State) : State :=
  { s with drive := { s.drive with bg1 := s.drive.bg1.countDown, bg2 := s.drive.bg2.countDown } }

/-- What counts in a millisecond: every timer in RUN, the blink generators in every run state but HALT (R129; assumption log
28). What an event of the same millisecond starts counts from the next one on. -/
def State.count (s : State) : State :=
  let s1 := if s.running then s.countTimers else s
  if s.listening then s1.countBlinks else s1

/-! ## Sampling -/

/-- PFW is sampled in every run state (R170). -/
def State.samplePfw (s : State) : State :=
  let f := s.store.pfw.sample
  let s1 := { s with store := { s.store with pfw := f } }
  if f.accepted == s.store.pfw.accepted then s1
  else if f.accepted then State.conclude s1 s1.pfwTaken
  else s1.pfwGone

/-- A limit's filter. -/
def Drive.limit (d : Drive) (l : Limit) : Filter :=
  match l with
  | .openLimit => d.openLimit
  | .closedLimit => d.closedLimit

/-- A limit's filter replaced. -/
def Drive.putLimit (d : Drive) (l : Limit) (f : Filter) : Drive :=
  match l with
  | .openLimit => { d with openLimit := f }
  | .closedLimit => { d with closedLimit := f }

/-- A limit input is sampled (R119, R133). -/
def State.sampleLimit (s : State) (l : Limit) : State :=
  let f := (s.drive.limit l).sample
  let s1 := { s with drive := s.drive.putLimit l f }
  if f.accepted == (s.drive.limit l).accepted then s1 else s1.limitEvent l f.accepted

/-- EMERG is sampled in RUN, with its settle count of 20 (R135). -/
def State.sampleEmerg (s : State) : State :=
  let f := s.emergency.input.sample
  let n := if f.accepted == s.emergency.filtered then 0 else s.emergency.settle + 1
  let s1 := { s with emergency := { s.emergency with input := f, settle := n } }
  if n < 20 then s1
  else State.conclude s1 (if f.accepted then s1.emergAsserted else s1.emergDeasserted)

/-- The beams one sample on (R114). -/
def Beams.sample (b : Beams) : Beams :=
  { b1 := b.b1.sample, b2 := b.b2.sample, b3 := b.b3.sample, b4 := b.b4.sample, b5 := b.b5.sample, b6 := b.b6.sample }

/-- A zone's settle count after a sample: 0 when its beams agree with it (R115). -/
def settleNext (level zone : Bool) (n : Nat) : Nat := if level == zone then 0 else n + 1

/-- A zone's state after a sample: its beams' level once the count has reached the parameter (R115). -/
def zoneNext (count : Nat) (level zone : Bool) (n : Nat) : Bool := if count ≤ settleNext level zone n then level else zone

/-- The monitor with its beams and counts one sample on. -/
def Monitor.sample (m : Monitor) : Monitor :=
  let b := m.beams.sample
  { m with
    beams := b
    settleA := settleNext (b.b1.accepted || b.b2.accepted) m.zones.zA m.settleA
    settleF := settleNext (b.b3.accepted || b.b4.accepted) m.zones.zF m.settleF
    settleB := settleNext (b.b5.accepted || b.b6.accepted) m.zones.zB m.settleB }

/-- The zones a sample leaves (R115). -/
def Monitor.sampledZones (m : Monitor) (count : Nat) : Zones :=
  let b := m.beams.sample
  { zA := zoneNext count (b.b1.accepted || b.b2.accepted) m.zones.zA m.settleA
    zF := zoneNext count (b.b3.accepted || b.b4.accepted) m.zones.zF m.settleF
    zB := zoneNext count (b.b5.accepted || b.b6.accepted) m.zones.zB m.settleB }

/-- The beams are sampled and the events of the sample are reported (R114 to R118). -/
def State.sampleBeams (s : State) : State :=
  { s with monitor := s.monitor.sample }.zoneSample (s.monitor.sampledZones s.params.settleCount)

/-- One conversion of the motor current (R123): within the blanking, that of a motion begun in this millisecond among it, it
is disregarded; the fourth result running above the threshold is an obstruction. -/
def State.senseCurrent (s : State) : State :=
  match s.drive.motion with
  | none => s
  | some m =>
    if m.blanking.isSome then s
    else if m.release then { s with drive := { s.drive with obstructCount := 0 } }
    else if s.params.threshold < s.pins.current then
      if s.drive.obstructCount < 3 then
        { s with drive := { s.drive with obstructCount := s.drive.obstructCount + 1 } }
      else { s with drive := { s.drive with obstructCount := 0 } }.obstructed
    else { s with drive := { s.drive with obstructCount := 0 } }

/-! ## Timers that have run out -/

/-- A context whose deadline has run out. -/
def Ctx.timedOut : Ctx → Bool
  | .idle => false
  | .waitAisle _ d => d == 0
  | .decided _ d => d == 0

/-- The deadline of one end's context. -/
def State.contextDue (s : State) (e : End) : State :=
  if (s.ctx e).timedOut then (s.commitDeadline e).waitDeadline e else s

/-- A timer that has run out. -/
def timedOut (t : Option Nat) : Bool := t == some 0

/-- The motion's timeout has run out. -/
def Drive.motionOver (d : Drive) : Bool := (d.motion.map fun m => m.remaining == 0).getD false

/-- The drive's timers. -/
def State.driveDue (s : State) : State :=
  (((s.inRun fun s => if s.drive.motionOver then s.motionTimesOut else s).inRun
      fun s => if timedOut s.drive.pause then s.pauseEnds else s).inRun
      fun s => if timedOut s.drive.holdTimer then s.closeHoldEnds else s).inRun
      fun s => if timedOut s.drive.buzzer then { s with drive := { s.drive with buzzer := none } } else s

/-- The head credit's deadline has run out. -/
def Arbiter.creditOver (a : Arbiter) : Bool := (a.credits.head?.map fun c => timedOut c.deadline).getD false

/-- The arbiter's timers. -/
def State.arbiterDue (s : State) : State :=
  ((s.inRun fun s => if s.aisle.creditOver then s.passageDeadline else s).inRun
      fun s => if timedOut s.aisle.closeDelay then s.closeDelayEnds else s).inRun
      fun s => if timedOut s.aisle.reopenDelay then s.reopenDelayEnds else s

/-- The loiter timer: the elapsed time meets the limit in force (R118). -/
def State.loiterDue (s : State) : State :=
  match s.monitor.loiter with
  | some n => if s.params.loiterLimit ≤ n then s.loiterEnds else s
  | none => s

/-- A generator whose phase has run out. -/
def State.blinkDue (s : State) (g : BlinkGen) : State :=
  match g with
  | .bg1 => if s.drive.bg1.remaining = 0 then s.blink .bg1 else s
  | .bg2 => if s.drive.bg2.remaining = 0 then s.blink .bg2 else s

/-! ## One millisecond -/

/-- What RUN does in a millisecond once the timers have counted: EMERG, the beams and the current are sampled, and what has
run out is taken. -/
def State.runTick (s : State) : State :=
  ((((((s.inRun State.sampleEmerg).inRun State.sampleBeams).inRun State.senseCurrent).driveDue.arbiterDue.inRun
      fun s => s.contextDue .a).inRun fun s => s.contextDue .b).inRun
      fun s => if timedOut s.emergency.releaseTimer then s.releaseTimerExpiry else s).inRun State.loiterDue

/-- The limit inputs in a millisecond: they are sampled from the beginning of STARTING on (R133), and not in HALT (R172;
assumption log 20). -/
def State.limitTick (s : State) : State :=
  if s.listening then (s.sampleLimit .openLimit).sampleLimit .closedLimit else s

/-- The blink generators whose phases have run out in a millisecond. -/
def State.blinkTick (s : State) : State :=
  if s.listening then (s.blinkDue .bg1).blinkDue .bg2 else s

/-- One millisecond of the part. Without supply nothing but the backup domain runs, and SECOND_TICK is its event. A
holdover that has nothing left to flush waits for its own row, HOLDOVER_END (assumption log 12). -/
def State.tick (s : State) : State :=
  if s.store.supply then
    let s1 := s.count.samplePfw.limitTick
    (if s1.running then s1.runTick else s1).blinkTick
  else s

end Sys2Proof.Machine
end

