-- ==== Sys2Proof/Machine/Step.lean ====
section
/-! DEFINITION. One step: the command at the front of the queue, or one millisecond when none waits. -/

namespace Sys2Proof.Machine

/-- The state with another queue of commands. -/
def State.withPending (s : State) (q : List Instr) : State := { s with pending := q }

/-- A step takes the command at the front of the queue on the state with the queue's rest; on an empty queue one
millisecond passes (assumption log 4). -/
def step (s : State) : Host.Outcome State Fault Refusal :=
  match s.pending with
  | [] => .next s.tick
  | c :: rest => exec c (s.withPending rest)

/-- The command a word spells in front of the queue; the table spells none in bits (assumption log 1). -/
def State.withFetchWord (s : State) (nbits w : Nat) : State :=
  match decodeTableWord nbits w with
  | some c => s.withPending (c :: s.pending)
  | none => s

end Sys2Proof.Machine
end

