-- ==== Sys2Proof/WellFormed.lean ====
section
/-! DEFINITION. When a command's operands fit the widths chapter 12 gives their fields. `exec` is total and needs
none of this; the checks say which terms spell a frame or an event the part can meet. -/

namespace Sys2Proof

/-- A number fits `n` bytes. -/
def fitsBytes (n v : Nat) : Bool := decide (v < 256 ^ n)

/-- A card image fits its 30 bytes (12.3). -/
def CardImage.fits (i : CardImage) : Bool :=
  fitsBytes 8 i.card && fitsBytes 1 i.cls && fitsBytes 1 i.state
    && decide (-8388608 ≤ i.balance) && decide (i.balance ≤ 8388607)
    && fitsBytes 2 i.sequence && fitsBytes 1 i.entryStation && fitsBytes 4 i.entryTime
    && fitsBytes 1 i.entryAisle && fitsBytes 2 i.dayNumber && fitsBytes 2 i.daySpend
    && fitsBytes 2 i.expiryDay && fitsBytes 1 i.keyIndex && fitsBytes 2 i.check

/-- A deny entry fits its 9 bytes (12.5). -/
def DenyItem.fits (d : DenyItem) : Bool := fitsBytes 8 d.card && fitsBytes 1 d.reason

/-- The operands of a command fit the fields that carry them (12.3, 12.5, 12.9); an event's operands are all the
part can meet. -/
def Instr.wellFormed : Instr → Bool
  | .endPortTransfer _ _ spare => decide (spare < 8)
  | .present _ i => i.fits
  | .commit _ c => fitsBytes 8 c
  | .abort _ c => fitsBytes 8 c
  | .status _ => true
  | .eventsEnable _ _ => true
  | .commitDeadline _ => true
  | .waitDeadline _ => true
  | .passageDeadline => true
  | .zoneChange _ => true
  | .loiter => true
  | .closeDelayExpiry => true
  | .reopenDelayExpiry => true
  | .closeHoldExpiry => true
  | .flapLimitReached _ => true
  | .flapLimitLost _ => true
  | .motionTimeout => true
  | .obstruction => true
  | .retryPauseEnd => true
  | .buzzerPulseEnd => true
  | .blinkPhaseChange _ => true
  | .secondTick => true
  | .emergAsserted => true
  | .emergDeasserted => true
  | .releaseTimerExpiry => true
  | .info => true
  | .timeSet _ t => fitsBytes 4 t
  | .paramSet n v => fitsBytes 1 n && fitsBytes 2 v
  | .paramGet n => fitsBytes 1 n
  | .modeSet _ m => fitsBytes 1 m
  | .faultClear => true
  | .emergencySet _ => true
  | .emergencyClear _ => true
  | .amnestyAdd _ c f t => fitsBytes 1 c && fitsBytes 4 f && fitsBytes 4 t
  | .denyReload _ g => fitsBytes 2 g
  | .denyAdd _ g is => fitsBytes 2 g && is.all DenyItem.fits && decide (is.length ≤ 13)
  | .denyRemove _ g cs => fitsBytes 2 g && cs.all (fitsBytes 8) && decide (cs.length ≤ 14)
  | .denyEntryApply => true
  | .denyComplete _ g => fitsBytes 2 g
  | .denyInfo none => true
  | .denyInfo (some c) => fitsBytes 8 c
  | .tariffBegin v d => fitsBytes 2 v && fitsBytes 2 d
  | .tariffBlock i d => fitsBytes 1 i && decide (d.length ≤ 119)
  | .tariffEnd c => fitsBytes 2 c
  | .tariffValidate => true
  | .tariffCancel => true
  | .tariffInfo => true
  | .journalInfo => true
  | .journalRead s n => fitsBytes 4 s && fitsBytes 1 n
  | .journalReadNext n => fitsBytes 1 n
  | .journalRelease l => fitsBytes 4 l
  | .eventsClear m => fitsBytes 2 m
  | .restart => true
  | .stationFrame _ _ => true
  | .lineBreak => true
  | .stationReply => true
  | .stationReplyEnd => true
  | .collision => true
  | .recordProgramDone _ => true
  | .pageReleaseDone _ => true
  | .tariffEraseDone _ => true
  | .blockProgramDone _ => true
  | .completionRecordDone _ => true
  | .activationMarkerDone _ => true
  | .supplyUp _ => true
  | .supplyLoss => true
  | .resetPinAsserted => true
  | .resetPinReleased => true
  | .pfwAsserted => true
  | .pfwDeasserted => true
  | .holdoverEnd => true
  | .startupEnd => true
  | .transferBegin _ => true
  | .incompleteFrame => true
  | .framingError => true

end Sys2Proof
end

