-- ==== Sys2Proof/Machine/Encode.lean ====
section
/-! DEFINITION. The frames a lane processor and a station controller send for each request: the way back from the
decoders of Operands.lean (12.2, 12.5, 12.9). -/

namespace Sys2Proof.Machine

/-! ## End-port requests -/

/-- The kind byte of an end-port request (12.9). -/
def EndRequest.kind : EndRequest → Nat
  | .present _ => 1
  | .commit _ => 2
  | .abort _ => 3
  | .status => 4
  | .eventsEnable _ => 5

/-- The payload of an end-port request (12.9). -/
def EndRequest.payload : EndRequest → List Byte
  | .present i => imageBytes i
  | .commit c => beBytes 8 c
  | .abort c => beBytes 8 c
  | .status => []
  | .eventsEnable b => [b]

/-- The whole inward frame of a request. -/
def EndRequest.frame (r : EndRequest) : List Byte := endFrame r.kind r.payload

/-- The request's fields fit their bytes. -/
def EndRequest.fits : EndRequest → Bool
  | .present i => i.fits
  | .commit c => fitsBytes 8 c
  | .abort c => fitsBytes 8 c
  | .status => true
  | .eventsEnable _ => true

/-! ## Station requests -/

/-- The payload of a station request (12.5, 12.9). -/
def StationRequest.payload : StationRequest → List Byte
  | .info => []
  | .timeSet t => beBytes 4 t
  | .paramSet n v => beBytes 1 n ++ beBytes 2 v
  | .paramGet n => beBytes 1 n
  | .modeSet m => beBytes 1 m
  | .faultClear => []
  | .emergencySet => []
  | .emergencyClear => []
  | .amnestyAdd c f t => beBytes 1 c ++ beBytes 4 f ++ beBytes 4 t
  | .denyReload g => beBytes 2 g
  | .denyAdd g is =>
    beBytes 2 g ++ beBytes 1 is.length ++ is.flatMap fun i => beBytes 8 i.card ++ beBytes 1 i.reason
  | .denyRemove g cs => beBytes 2 g ++ beBytes 1 cs.length ++ cs.flatMap (beBytes 8)
  | .denyComplete g => beBytes 2 g
  | .denyInfo none => []
  | .denyInfo (some c) => beBytes 8 c
  | .tariffBegin v d => beBytes 2 v ++ beBytes 2 d
  | .tariffBlock i data => beBytes 1 i ++ data
  | .tariffEnd c => beBytes 2 c
  | .tariffCancel => []
  | .tariffInfo => []
  | .journalInfo => []
  | .journalRead q n => beBytes 4 q ++ beBytes 1 n
  | .journalReadNext n => beBytes 1 n
  | .journalRelease l => beBytes 4 l
  | .eventsClear m => beBytes 2 m
  | .restart => []

/-- A station frame after its sync: address, kind, length, payload, CRC-8 (12.2). -/
def stationFrame (address kind : Nat) (payload : List Byte) : List Byte :=
  let head := byte address :: byte kind :: byte payload.length :: payload
  head ++ [byte (crc8 head)]

/-- The whole frame of a request. -/
def StationRequest.frame (address : Nat) (r : StationRequest) : List Byte := stationFrame address r.kind r.payload

/-- The request's fields fit their bytes, and its payload fits a frame: at most 120 bytes (12.2). -/
def StationRequest.fits : StationRequest → Bool
  | .info => true
  | .timeSet t => fitsBytes 4 t
  | .paramSet n v => fitsBytes 1 n && fitsBytes 2 v
  | .paramGet n => fitsBytes 1 n
  | .modeSet m => fitsBytes 1 m
  | .faultClear => true
  | .emergencySet => true
  | .emergencyClear => true
  | .amnestyAdd c f t => fitsBytes 1 c && fitsBytes 4 f && fitsBytes 4 t
  | .denyReload g => fitsBytes 2 g
  | .denyAdd g is => fitsBytes 2 g && is.all DenyItem.fits && decide (is.length ≤ 13)
  | .denyRemove g cs => fitsBytes 2 g && cs.all (fitsBytes 8) && decide (cs.length ≤ 14)
  | .denyComplete g => fitsBytes 2 g
  | .denyInfo none => true
  | .denyInfo (some c) => fitsBytes 8 c
  | .tariffBegin v d => fitsBytes 2 v && fitsBytes 2 d
  | .tariffBlock i d => fitsBytes 1 i && decide (d.length = 64)
  | .tariffEnd c => fitsBytes 2 c
  | .tariffCancel => true
  | .tariffInfo => true
  | .journalInfo => true
  | .journalRead s n => fitsBytes 4 s && fitsBytes 1 n
  | .journalReadNext n => fitsBytes 1 n
  | .journalRelease l => fitsBytes 4 l
  | .eventsClear m => fitsBytes 2 m
  | .restart => true

/-- The command of the table a station request sent to this aisle is. -/
def StationRequest.command : StationRequest → Instr
  | .info => .info
  | .timeSet t => .timeSet .addressed t
  | .paramSet n v => .paramSet n v
  | .paramGet n => .paramGet n
  | .modeSet m => .modeSet .addressed m
  | .faultClear => .faultClear
  | .emergencySet => .emergencySet .addressed
  | .emergencyClear => .emergencyClear .addressed
  | .amnestyAdd c f t => .amnestyAdd .addressed c f t
  | .denyReload g => .denyReload .addressed g
  | .denyAdd g is => .denyAdd .addressed g is
  | .denyRemove g cs => .denyRemove .addressed g cs
  | .denyComplete g => .denyComplete .addressed g
  | .denyInfo c => .denyInfo c
  | .tariffBegin v d => .tariffBegin v d
  | .tariffBlock i d => .tariffBlock i d
  | .tariffEnd c => .tariffEnd c
  | .tariffCancel => .tariffCancel
  | .tariffInfo => .tariffInfo
  | .journalInfo => .journalInfo
  | .journalRead q n => .journalRead q n
  | .journalReadNext n => .journalReadNext n
  | .journalRelease l => .journalRelease l
  | .eventsClear m => .eventsClear m
  | .restart => .restart

/-- The command of the table a broadcast request is; none of a kind that R183 does not let be broadcast. -/
def StationRequest.broadcastCommand : StationRequest → Option Instr
  | .timeSet t => some (.timeSet .broadcast t)
  | .modeSet m => some (.modeSet .broadcast m)
  | .emergencySet => some (.emergencySet .broadcast)
  | .emergencyClear => some (.emergencyClear .broadcast)
  | .amnestyAdd c f t => some (.amnestyAdd .broadcast c f t)
  | .denyReload g => some (.denyReload .broadcast g)
  | .denyAdd g is => some (.denyAdd .broadcast g is)
  | .denyRemove g cs => some (.denyRemove .broadcast g cs)
  | .denyComplete g => some (.denyComplete .broadcast g)
  | .info => none
  | .paramSet _ _ => none
  | .paramGet _ => none
  | .faultClear => none
  | .denyInfo _ => none
  | .tariffBegin _ _ => none
  | .tariffBlock _ _ => none
  | .tariffEnd _ => none
  | .tariffCancel => none
  | .tariffInfo => none
  | .journalInfo => none
  | .journalRead _ _ => none
  | .journalReadNext _ => none
  | .journalRelease _ => none
  | .eventsClear _ => none
  | .restart => none

/-- The command of the table an end-port request at an end is. -/
def EndRequest.command (e : End) : EndRequest → Instr
  | .present i => .present e i
  | .commit c => .commit e c
  | .abort c => .abort e c
  | .status => .status e
  | .eventsEnable b => .eventsEnable e b

end Sys2Proof.Machine
end

