-- ==== Sys2Proof/Safety.lean ====
section
/-! DEFINITION. The terms the statements use: which blocks an event leaves unchanged, and what a legal state is. -/

namespace Sys2Proof.Machine

/-! ## Blocks and frames -/

/-- The parts of State, for frames: `power` is the flash store but for the operation in progress, `busy` that
operation. -/
inductive Block where
  | pending
  | pins
  | params
  | au
  | ports
  | station
  | time
  | tariff
  | sightings
  | deny
  | aisle
  | monitor
  | drive
  | emergency
  | journal
  | power
  | busy
  | flash
  | draws
  deriving DecidableEq, Repr

/-- A block is the same in two states. -/
def sameBlock (b : Block) (s t : State) : Prop :=
  match b with
  | .pending => t.pending = s.pending
  | .pins => t.pins = s.pins
  | .params => t.params = s.params
  | .au => t.au = s.au
  | .ports => t.ports = s.ports
  | .station => t.station = s.station
  | .time => t.time = s.time
  | .tariff => t.tariff = s.tariff
  | .sightings => t.sightings = s.sightings
  | .deny => t.deny = s.deny
  | .aisle => t.aisle = s.aisle
  | .monitor => t.monitor = s.monitor
  | .drive => t.drive = s.drive
  | .emergency => t.emergency = s.emergency
  | .journal => t.journal = s.journal
  | .power => { t.store with busy := none } = { s.store with busy := none }
  | .busy => t.store.busy = s.store.busy
  | .flash => t.flash = s.flash
  | .draws => t.draws = s.draws

/-- Every block but the named ones is the same in two states. -/
def Unchanged (changed : List Block) (s t : State) : Prop := ∀ b : Block, b ∉ changed → sameBlock b s t

/-! ## What an answer leaves at a port -/

/-- A port but for SERVICE_CHANGED, which every event may set (R178). -/
def EndPort.unflag (p : EndPort) : EndPort := { p with serviceChanged := false }

/-- End `e`'s request was answered with `r` (R176), and the other port was left alone. -/
def PortAnswers (e : End) (r : Response) (s t : State) : Prop :=
  (t.port e).unflag = { (s.port e).produce { response := r, late := false } with request := none }.unflag
    ∧ (t.port e.other).unflag = (s.port e.other).unflag

/-- A late decision was posted at end `e` (R176, R178), and the other port was left alone. -/
def PortPosts (e : End) (d : Decision) (s t : State) : Prop :=
  (t.port e).unflag = { (s.port e).produce { response := .decision d, late := true } with decisionReady := true }.unflag
    ∧ (t.port e.other).unflag = (s.port e.other).unflag

/-- Neither port was answered to. -/
def PortsKept (s t : State) : Prop := ∀ e, (t.port e).unflag = (s.port e).unflag

/-- The part takes a station request now: in RUN, the inbound buffer free, an aisle number of an aisle strapped (R181 to
R183). -/
def PortFree (s : State) : Prop :=
  s.running = true ∧ s.station.inbound = none ∧ 1 ≤ s.pins.aisleNumber ∧ s.pins.aisleNumber ≤ 62

/-- The station port holding a request that is not yet answered (R182). -/
def StationPort.holding (p : StationPort) (form : Form) (kind : Nat) : StationPort :=
  { p with receive := .waitBreak, inbound := some { form := form, kind := kind, cancelled := false } }

/-- The station port after a request that was answered at once: an addressed one has its reply in hand, a broadcast one
is done with (R182, R183). -/
def StationPort.answered (p : StationPort) (form : Form) (kind : Nat) (a : Answer) : StationPort :=
  match form with
  | .addressed =>
    { p with
      receive := .waitBreak
      inbound := some { form := .addressed, kind := kind, cancelled := false }
      reply := some { kind := kind, status := a.status, payload := a.payload } }
  | .broadcast => { p with receive := .waitBreak, inbound := none, reply := none }

/-- The state with its station port replaced. -/
def State.withStation (s : State) (p : StationPort) : State := { s with station := p }

/-- The station port but for its attention flags. -/
def StationPort.quiet (p : StationPort) : StationPort := { p with attention := {} }

/-- The request of this form and kind was answered with `a`; the attention flags are said apart. -/
def StationAnswers (form : Form) (kind : Nat) (a : Answer) (s t : State) : Prop :=
  t.station.quiet = (s.station.answered form kind a).quiet

/-! ## What the journal took -/

/-- An unreserved record finds its room, and none was lost before it (R149, R150). -/
def CanAppend (s : State) : Prop := s.journal.dropped = 0 ∧ s.journal.room 1 = true

/-- A reserved record finds its sequence, and none was lost before it (R149, R150). -/
def CanComplete (s : State) : Prop := s.journal.dropped = 0 ∧ s.journal.lastSeq < 4294967295

/-- The journal took exactly this record, with the next sequence and the counter's time, and `released` context
reservations ended with it (R145, R148). -/
def Appended (d : RecordData) (released : Nat) (s t : State) : Prop :=
  t.journal.lastSeq = s.journal.lastSeq + 1
    ∧ t.journal.queue = s.journal.queue ++ [{ sequence := s.journal.lastSeq + 1, time := s.time.counter, data := d }]
    ∧ t.journal.free = s.journal.free - 1
    ∧ t.journal.reserved = s.journal.reserved - released
    ∧ t.journal.dropped = s.journal.dropped ∧ t.journal.cursor = s.journal.cursor
    ∧ t.journal.mark = s.journal.mark ∧ t.journal.newestProgrammed = s.journal.newestProgrammed

/-- The journal took exactly these records, oldest first, with the sequences that follow and the counter's time, each from
the unreserved pool (R145, R149). -/
def AppendedAll (ds : List RecordData) (s t : State) : Prop :=
  t.journal.lastSeq = s.journal.lastSeq + ds.length
    ∧ t.journal.queue = s.journal.queue ++ ds.zipIdx.map (fun (d, i) =>
        { sequence := s.journal.lastSeq + 1 + i, time := s.time.counter, data := d })
    ∧ t.journal.free = s.journal.free - ds.length ∧ t.journal.reserved = s.journal.reserved
    ∧ t.journal.dropped = s.journal.dropped ∧ t.journal.mark = s.journal.mark

/-- There is room for `n` unreserved records: slots of the unreserved pool, unreserved write-queue places, and sequences
above those kept for the reservations (R149, R150). -/
abbrev HasRoom (n : Nat) (j : Journal) : Prop :=
  n ≤ j.free - j.reserved ∧ j.queue.length + j.reserved + n ≤ 16 ∧ j.reserved + n ≤ 4294967295 - j.lastSeq

/-- The journal took a DROPPED record carrying its dropped count and this record after it, and `released` context
reservations ended with them; the count is 0 (R150). -/
def AppendedAfterLoss (d : RecordData) (released : Nat) (s t : State) : Prop :=
  t.journal.lastSeq = s.journal.lastSeq + 2
    ∧ t.journal.queue = s.journal.queue ++ [
        { sequence := s.journal.lastSeq + 1, time := s.time.counter
          data := { kind := .dropped, reference := some s.journal.dropped } },
        { sequence := s.journal.lastSeq + 2, time := s.time.counter, data := d }]
    ∧ t.journal.free = s.journal.free - 2
    ∧ t.journal.reserved = s.journal.reserved - released
    ∧ t.journal.dropped = 0 ∧ t.journal.cursor = s.journal.cursor
    ∧ t.journal.mark = s.journal.mark ∧ t.journal.newestProgrammed = s.journal.newestProgrammed

/-- The record was dropped: the dropped count rises, saturating, and nothing else in the journal changes (R150). -/
def NotTaken (s t : State) : Prop :=
  t.journal = { s.journal with dropped := min 65535 (s.journal.dropped + 1) }

/-- What the journal made of an unreserved record: the unreserved row of R150's table, and R149 with no record lost. -/
def UnreservedAppend (d : RecordData) (s t : State) : Prop :=
  (s.journal.dropped = 0 → HasRoom 1 s.journal → Appended d 0 s t)
    ∧ (0 < s.journal.dropped → HasRoom 2 s.journal → AppendedAfterLoss d 0 s t)
    ∧ (s.journal.dropped = 0 → ¬HasRoom 1 s.journal → NotTaken s t)
    ∧ (0 < s.journal.dropped → ¬HasRoom 2 s.journal → NotTaken s t)

/-- What the journal made of a record appended into its context's reservation: the reserved row of R150's table, and R149
with no record lost. -/
def ReservedAppend (d : RecordData) (s t : State) : Prop :=
  (s.journal.dropped = 0 ∨ ¬HasRoom 1 s.journal → Appended d 1 s t)
    ∧ (0 < s.journal.dropped → HasRoom 1 s.journal → 1 ≤ s.journal.reserved → AppendedAfterLoss d 1 s t)

/-! ## What a release of records does (R158) -/

/-- A WRITTEN page that R158 releases under `mark`: it waits for no queued record, holds no sequence above the mark, and
does not hold the newest record, which with an empty write queue is the one of highest sequence in flash (assumption log
50). -/
def PageCollected (s : State) (mark p : Nat) : Prop :=
  s.journal.pages.getD p .erased = .written ∧ s.journal.awaited p = false
    ∧ (∀ r ∈ recordsIn (s.flash.pageSlots p), r.sequence ≤ mark)
    ∧ (s.journal.queue = [] → ∀ r ∈ recordsIn (s.flash.pageSlots p), ∃ n ∈ recordsIn s.flash.slots,
        r.sequence < n.sequence)

/-- R158: with the mark moved, the pages it releases, and no other, become RELEASED and join the erase queue, in ring order
from the oldest; a release that leaves the mark leaves the journal. -/
def PagesReleased (mark : Nat) (s t : State) : Prop :=
  (mark ≤ s.journal.mark → t.journal = s.journal)
    ∧ (s.journal.mark < mark →
      (∀ p, p < 128 → PageCollected s mark p → t.journal.pages.getD p .erased = .released)
        ∧ (∀ p, ¬(p < 128 ∧ PageCollected s mark p) →
          t.journal.pages.getD p .erased = s.journal.pages.getD p .erased)
        ∧ ∃ ps : List Nat, t.journal.eraseQueue = s.journal.eraseQueue ++ ps ∧ ps.Sublist (ringFrom s.journal.ringBase)
          ∧ ∀ p, p ∈ ps ↔ p < 128 ∧ PageCollected s mark p)

/-! ## The aisle at hand -/

/-- Nobody waits for the aisle. -/
def NoWaits (s : State) : Prop := s.aisle.waiting = { a := false, b := false }

/-- A credit but for its deadline. -/
def Credit.who (c : Credit) : End × Nat × GrantKind := (c.fromEnd, c.card, c.kind)

/-- The credits in the queue but for their deadlines, oldest first. -/
def State.queued (s : State) : List (End × Nat × GrantKind) := s.aisle.credits.map Credit.who

/-- Nothing is outstanding in the aisle and nobody waits for it. -/
def Vacant (s : State) : Prop := s.aisle.credits = [] ∧ s.aisle.reservation = none ∧ NoWaits s

/-- A credit waits at the head of a NORMALLY_CLOSED aisle in SERVING, and nobody waits for the aisle: the flaps are to
stand open (R108). -/
def ServingCredit (s : State) : Prop :=
  s.params.aisleMode = .normallyClosed ∧ s.aisle.state = .serving ∧ s.aisle.credits ≠ [] ∧ NoWaits s

/-- A NORMALLY_CLOSED aisle in IDLE or OUT_OF_SERVICE with nothing outstanding and the command CLOSE held. -/
def AtRest (s : State) : Prop :=
  s.params.aisleMode = .normallyClosed ∧ (s.aisle.state = .idle ∨ s.aisle.state = .outOfService) ∧ Vacant s
    ∧ s.drive.command = .toClose

/-! ## Waits -/

/-- How many reservations a context holds in the journal. -/
def Ctx.claims (c : Ctx) : Nat := if c.live then 1 else 0

/-- R22, R95: each wait slot is that of a context in WAIT_AISLE, and no waiting transaction is HELD. -/
def SlotsMatch (s : State) : Prop :=
  (∀ e, s.aisle.waiting.get e = true ↔ (s.ctx e).tag = .waitAisle)
    ∧ ∀ e x d, s.ctx e = .waitAisle x d → x.flags.held = false

/-- How many wait slots are filled. -/
def Arbiter.waits (a : Arbiter) : Nat := (if a.waiting.a then 1 else 0) + (if a.waiting.b then 1 else 0)

/-- A port to which a late decision was posted, but for SERVICE_CHANGED (R176, R178). -/
def EndPort.posted (p : EndPort) (d : Decision) : EndPort :=
  { p.produce { response := .decision d, late := true } with decisionReady := true }.unflag

/-- Every waiting request, and nothing else, ended in this late refusal (R18, R98): slots empty, journal reservations
gone, contexts IDLE, decisions posted; and with no credit lost in the same event a saved sighting entry is back. -/
def WaitsRefused (r : Reason) (c : Option SubCause) (s u : State) : Prop :=
  u.aisle.waiting = { a := false, b := false } ∧ u.journal.reserved = s.journal.reserved - s.aisle.waits
    ∧ (∀ e, s.aisle.waiting.get e = true →
      u.ctx e = .idle ∧ (u.port e).unflag = (s.port e).posted (.refused r c))
    ∧ (∀ e, s.aisle.waiting.get e = false → u.ctx e = s.ctx e ∧ (u.port e).unflag = (s.port e).unflag)
    ∧ ∀ e x d, s.ctx e = .waitAisle x d → s.aisle.waiting.get e.other = false → s.aisle.credits = [] →
      u.sightings = restoreSighting s.sightings x.card x.previous

/-- The waiting request of `e` was granted (R17, R96, R97): the slot is empty, `e` last served, the decision posted
late; a write grant is DECIDED with its commit deadline started and holds the reservation, a no-write grant is IDLE
again and its credit the last. `left` are the credits left before. -/
def WaitGranted (e : End) (x : Txn) (left : List (End × Nat × GrantKind)) (s u : State) : Prop :=
  u.aisle.waiting = s.aisle.waiting.set e false ∧ u.aisle.lastServed = e ∧ u.aisle.owned = some (endDir e)
    ∧ (u.port e).unflag = (s.port e).posted (.granted x.kind x.charge x.flags x.image)
    ∧ (x.kind = .entry ∨ x.kind = .exit →
      u.ctx e = .decided x s.params.commitDeadline ∧ u.aisle.reservation = some e ∧ u.queued = left)
    ∧ (x.kind = .retap ∨ x.kind = .recovery →
      u.ctx e = .idle ∧ u.aisle.reservation = none ∧ u.queued = left ++ [(e, x.card, x.kind)])

/-! ## One millisecond (R114, R115, R135, R170) -/

/-- A filter one sample on: two equal raw samples are accepted, and the raw sample is the next one's previous (R114). -/
def Sampled (f g : Filter) : Prop :=
  g.raw = f.raw ∧ g.prev = f.raw ∧ (f.raw = f.prev → g.accepted = f.raw) ∧ (f.raw ≠ f.prev → g.accepted = f.accepted)

/-- A settled state one sample on: with its input equal to it the count is 0; else the count rises, and at its limit the
state takes the input and the count is 0 again (R115, R135). -/
def Settled (limit : Nat) (input old : Bool) (n : Nat) (new : Bool) (m : Nat) : Prop :=
  (input = old → new = old ∧ m = 0)
    ∧ (input ≠ old → n + 1 < limit → new = old ∧ m = n + 1)
    ∧ (input ≠ old → limit ≤ n + 1 → new = input ∧ m = 0)

/-- A filter whose next sample changes nothing. -/
def Steady (f : Filter) : Prop := f.raw = f.accepted ∧ f.prev = f.accepted

/-- A timer that does not run out at the next millisecond. -/
def NotDue (t : Option Nat) : Prop := t ≠ some 0 ∧ t ≠ some 1

/-- A context whose deadline does not run out at the next millisecond. -/
def Ctx.notDue : Ctx → Prop
  | .idle => True
  | .waitAisle _ d => 1 < d
  | .decided _ d => 1 < d

/-- A context with one millisecond less to its deadline. -/
def Ctx.older : Ctx → Ctx
  | .idle => .idle
  | .waitAisle x d => .waitAisle x (d - 1)
  | .decided x d => .decided x (d - 1)

/-- A millisecond of RUN in which no input changes and no timer runs out. -/
def Quiet (s : State) : Prop :=
  s.running = true ∧ Steady s.store.pfw ∧ Steady s.drive.openLimit ∧ Steady s.drive.closedLimit
    ∧ Steady s.emergency.input ∧ s.emergency.input.accepted = s.emergency.filtered
    ∧ Steady s.monitor.beams.b1 ∧ Steady s.monitor.beams.b2 ∧ Steady s.monitor.beams.b3
    ∧ Steady s.monitor.beams.b4 ∧ Steady s.monitor.beams.b5 ∧ Steady s.monitor.beams.b6
    ∧ s.monitor.zones = { zA := s.monitor.beams.b1.accepted || s.monitor.beams.b2.accepted
                          zF := s.monitor.beams.b3.accepted || s.monitor.beams.b4.accepted
                          zB := s.monitor.beams.b5.accepted || s.monitor.beams.b6.accepted }
    ∧ 0 < s.params.settleCount
    ∧ (∀ e, (s.ctx e).notDue) ∧ (∀ c ∈ s.aisle.credits, NotDue c.deadline)
    ∧ NotDue s.aisle.closeDelay ∧ NotDue s.aisle.reopenDelay ∧ NotDue s.drive.holdTimer ∧ NotDue s.drive.pause
    ∧ NotDue s.drive.buzzer ∧ NotDue s.emergency.releaseTimer
    ∧ (∀ n, s.monitor.loiter = some n → n + 1 < s.params.loiterLimit)
    ∧ (∀ m, s.drive.motion = some m → 1 < m.remaining
      ∧ (m.blanking.getD 0 = 0 → m.release = false → s.params.threshold < s.pins.current → s.drive.obstructCount < 3))
    ∧ 1 < s.drive.bg1.remaining ∧ 1 < s.drive.bg2.remaining

/-! ## Grants -/

/-- The state in which a PRESENT of this image reaches step 8 with this charge, these flags and this new image. -/
def ScreensTo (s : State) (e : End) (i : CardImage) (t : Tariff) (charge : Nat) (flags : Flags) (new : CardImage) : Prop :=
  s.running = true ∧ s.serviceRefusal = none ∧ s.tariff.current = some t ∧ s.ctx e = .idle ∧ t.accepts i = true
    ∧ i.sequence ≠ 65535 ∧ s.deny.find i.card = none
    ∧ judge (s.lookupSighting i.card) (s.presentation e t i) = .continue
    ∧ computeFare (s.role e) (s.fareInput t i) = .grant charge flags new

/-- R11, R15: the transaction a write grant records: its kind by the role, its charge, flags and new image fixed now,
signed with the write key, its previous sighting entry saved. -/
def GrantTxn (s : State) (e : End) (i : CardImage) (t : Tariff) (charge : Nat) (flags : Flags) (new : CardImage) : Txn :=
  { kind := if s.params.orientation = e then .entry else .exit
    card := i.card, presSeq := i.sequence, presBalance := i.balance
    entryStation := if s.params.orientation = e then new.entryStation else i.entryStation
    charge := charge
    image := some { new with
      keyIndex := t.writeKey
      check := recordCheck ((t.key t.writeKey).getD []) { new with keyIndex := t.writeKey } }
    flags := { flags with listUnverified := decide (s.deny.state ≠ .complete) }
    previous := findSighting s.sightings i.card
    reference := none }

/-- The ENTRY or EXIT record of R19. -/
def CommitRecord (e : End) (x : Txn) (image : CardImage) : RecordData :=
  { kind := if x.kind = .entry then .entry else .exit
    atEnd := some e, flags := x.flags, card := some x.card, amount := some x.charge, balance := some image.balance
    cardSeq := some image.sequence, entryStation := some x.entryStation }

/-- R94: the arbiter reserves at once for end `e` (with the service mode IN, as step 1 of screening found it). -/
def ReservesAtOnce (e : End) (s : State) : Prop :=
  s.aisle.state = .idle
    ∨ (s.aisle.state = .serving ∨ s.aisle.state = .violation) ∧ s.aisle.owned = some (endDir e)
      ∧ s.aisle.credits.length < 3
      ∧ (s.aisle.waiting.get e.other = false ∨ s.params.priority.get e.other < s.params.priority.get e)

/-- R94: the arbiter has end `e` wait (with the service mode IN, as step 1 of screening found it). -/
def MustWait (e : End) (s : State) : Prop :=
  (s.aisle.state = .serving ∨ s.aisle.state = .violation)
    ∧ (s.aisle.owned ≠ some (endDir e) ∨ 3 ≤ s.aisle.credits.length
      ∨ s.aisle.waiting.get e.other = true ∧ s.params.priority.get e ≤ s.params.priority.get e.other)

/-- R94, R106: the aisle serves after the grant; a VIOLATION stands, but for one whose reopen delay has run out and that
ends in the same event. -/
def ServesOn (s u : State) : Prop :=
  (s.aisle.state ≠ .violation → u.aisle.state = .serving)
    ∧ (s.aisle.state = .violation → u.aisle.state = .violation
      ∨ u.aisle.state = .serving ∧ (s.aisle.reopenDelay = some 0 ∨ s.params.reopenDelay = 0))

/-! ## Fares and the tariff's day -/

/-- The matrix value of a row, 0 to 15, in the column of this station's zone: the matrix is held row by row, 16 values
each (12.6). -/
def FareInput.cell (i : FareInput) (row : Nat) : Nat := i.tariff.fares.getD (16 * row + (i.tariff.zone i.station - 1)) 0

/-- R47's table: the base fare of a journey and UNKNOWN_ORIGIN. -/
def BaseIs (i : FareInput) (base : Nat) (unknown : Bool) : Prop :=
  if i.tariff.zone i.station = 0 then
    unknown = true ∧ (∀ f ∈ i.tariff.fares, f ≤ base) ∧ (base ∈ i.tariff.fares ∨ i.tariff.fares = [] ∧ base = 0)
  else if i.image.entryStation = 255 ∨ i.tariff.zone i.image.entryStation = 0 then
    unknown = true ∧ (∀ row, row < 16 → i.cell row ≤ base) ∧ ∃ row, row < 16 ∧ i.cell row = base
  else unknown = false ∧ base = i.cell (i.tariff.zone i.image.entryStation - 1)

/-- R28: the band set of an operating day. -/
def Tariff.bandsOn (t : Tariff) (day : Int) : List Band :=
  if ∃ h ∈ t.holidays, (h : Int) = day then t.sunday
  else if (day + (t.epochWeekday : Int)) % 7 ≤ 4 then t.weekday
  else if (day + (t.epochWeekday : Int)) % 7 = 5 then t.saturday
  else t.sunday

/-- R28, R42, R48: entry time lies on operating day `day` at its minute `m`, and `b` is the band of that day's type with
the greatest start minute not above `m`. -/
def BandIs (t : Tariff) (entryTime : Nat) (day : Int) (m : Nat) (b : Band) : Prop :=
  (entryTime : Int) = (t.rollover : Int) + 1440 * day + (m : Int) ∧ m < 1440
    ∧ b ∈ t.bandsOn day ∧ b.start ≤ m ∧ ∀ c ∈ t.bandsOn day, c.start ≤ m → c = b ∨ c.start < b.start

/-- R143: the windows a day rollover at counter value `n` leaves, in their order: those whose to-minute lies at most 2880
minutes before it. -/
def windowsKept (n : Nat) (l : List Window) : List Window := l.filter fun w => decide (n / 60 ≤ w.toMinute + 2880)

/-- R27, R143: the emergency block after an event at counter value `n` that takes a day rollover or takes none. -/
def State.afterRollover (s : State) (n : Nat) (rollover : Prop) [Decidable rollover] : Sequencer :=
  if rollover then { s.emergency with amnesty := windowsKept n s.emergency.amnesty } else s.emergency

/-- R35: no READY tariff has its effective day come at counter value `n`. -/
def NoneDue (n : Nat) (s : State) : Prop :=
  s.tariff.pending.state ≠ .ready
    ∨ ∃ t, s.tariff.pending.image = some t ∧ opDay (n / 60) t.rollover < (t.effectiveDay : Int)

/-- R36: the READY tariff became current at counter value `n`: pending EMPTY in the other area, TARIFF_ACTIVATED set, the
program of its marker queued with the number after the other area's, the day in force counted with its rollover. -/
def Activated (t : Tariff) (n : Nat) (s u : State) : Prop :=
  u.tariff.current = some t ∧ u.tariff.pending.state = .empty ∧ u.tariff.pendingArea = s.tariff.pendingArea.other
    ∧ u.station.attention.tariffActivated = true ∧ u.time.day = some (opDay (n / 60) t.rollover)
    ∧ u.tariff.queue = s.tariff.queue ++ [TariffOp.marker s.tariff.pendingArea
        (match (s.flash.area s.tariff.pendingArea.other).marker with
          | none => 1
          | some k => if k = 4294967295 then 1 else k + 1) t.version]

/-! ## Crossings, emergencies, run states -/

/-- Whether Z_A and Z_B are seen occupied in a sample that leaves the zones as given (R115). -/
def Monitor.seen (m : Monitor) (z : Zones) : Bool × Bool := (m.zones.zA || z.zA, m.zones.zB || z.zB)

/-- R117's table: the flap zone clears with a crossing in direction `d`. -/
def CrossesAs (m : Monitor) (z : Zones) (d : Dir) : Prop :=
  m.zones.zF = true ∧ z.zF = false
    ∧ ((m.entrySide = some .a ∧ (m.seen z).2 = true ∧ d = .aToB)
      ∨ (m.entrySide = some .b ∧ (m.seen z).1 = true ∧ d = .bToA)
      ∨ (m.entrySide = some .unknown ∧ m.seen z = (false, true) ∧ d = .aToB)
      ∨ (m.entrySide = some .unknown ∧ m.seen z = (true, false) ∧ d = .bToA))

/-- The drive follows an OPEN: it holds the command and is in no clearing motion (R126). -/
def FollowsOpen (s : State) : Prop := s.drive.command = .toOpen ∧ s.drive.clearing = false

/-- R108, R109, R121: the flaps are commanded OPEN; CLOSED or CLOSING ones, but for a clearing motion, begin to open, or
are OPEN where the open limit is active. -/
def Opens (s u : State) : Prop :=
  u.drive.command = .toOpen
    ∧ (s.drive.clearing = false → s.drive.flap = .closed ∨ s.drive.flap = .closing →
      u.drive.flap = (if s.drive.openLimit.accepted then .opened else .opening))

/-- A sample that makes no crossing (R117). -/
def NoCrossing (m : Monitor) (z : Zones) : Prop := ∀ d, ¬CrossesAs m z d

/-- R108, R110: all that the close delay of a NORMALLY_CLOSED aisle in SERVING or IDLE waits for, but for the flap zone,
the credits and the reservation: the flaps follow the command OPEN, and the delay does not run yet. -/
def CloseDelayAwaits (s : State) : Prop :=
  s.params.aisleMode = .normallyClosed ∧ (s.aisle.state = .serving ∨ s.aisle.state = .idle) ∧ FollowsOpen s
    ∧ s.aisle.closeDelay = none

/-- R108, R109: an aisle that was SERVING is vacant at rest: IDLE, or OUT_OF_SERVICE with the service mode OUT, no direction
owned and the flaps commanded as the state has it in NORMALLY_OPEN mode. -/
def OpenAisleVacated (s u : State) : Prop :=
  u.aisle.state = (if s.params.serviceMode = .inService then .idle else .outOfService) ∧ u.aisle.owned = none
    ∧ u.drive.command = (if s.params.serviceMode = .inService then .toOpen else .toClose)

/-- R110: a PARAM_SET of the aisle mode, nobody waiting, did to the aisle and its flaps what the mode now in force asks:
NORMALLY_OPEN opens the flaps in IDLE and SERVING, stops the close delay and starts the head credit's deadline, or leaves a
vacant aisle with all zones clear (R109); NORMALLY_CLOSED opens them in SERVING when credits remain, lets a deadline run on,
and otherwise tests the close delay; in any other state the mode is recorded. -/
def AisleModeTaken (s u : State) : Prop :=
  u.queued = s.queued ∧ u.aisle.reservation = s.aisle.reservation
    ∧ (s.aisle.state = .violation → s.aisle.reopenDelay ≠ some 0 → s.params.reopenDelay ≠ 0 →
      u.aisle.state = .violation ∧ u.aisle.owned = s.aisle.owned ∧ u.drive.command = s.drive.command)
    ∧ (s.aisle.state = .emergency → u.aisle.state = .emergency ∧ u.drive.command = s.drive.command)
    ∧ (s.aisle.state = .outOfService → s.drive.clearing = false ∨ s.drive.closedLimit.accepted = false →
      u.aisle.state = .outOfService ∧ u.drive.command = s.drive.command)
    ∧ (u.params.aisleMode = .normallyOpen →
      (s.aisle.state = .idle ∨ s.aisle.state = .serving ∧ (s.aisle.credits ≠ [] ∨ s.aisle.reservation ≠ none
          ∨ s.monitor.zones ≠ { zA := false, zF := false, zB := false }) →
        Opens s u ∧ u.aisle.state = s.aisle.state ∧ u.aisle.owned = s.aisle.owned ∧ u.aisle.closeDelay = none
          ∧ ∀ c cs, s.aisle.credits = c :: cs →
            u.aisle.credits = { c with deadline := some (c.deadline.getD (1000 * s.params.passageTimeout)) } :: cs)
      ∧ (s.aisle.state = .serving → Vacant s → s.monitor.zones = { zA := false, zF := false, zB := false } →
        OpenAisleVacated s u))
    ∧ (u.params.aisleMode = .normallyClosed →
      (s.aisle.state = .serving → s.aisle.credits ≠ [] →
        Opens s u ∧ u.aisle.state = .serving ∧ u.aisle.owned = s.aisle.owned ∧ u.aisle.closeDelay = none
          ∧ ∀ c cs, s.aisle.credits = c :: cs → c.deadline ≠ none → u.aisle.credits = s.aisle.credits)
      ∧ (s.aisle.state = .serving → s.aisle.credits = [] → s.aisle.reservation ≠ none →
        u.aisle.state = .serving ∧ u.aisle.owned = s.aisle.owned ∧ u.aisle.closeDelay = none
          ∧ u.drive.command = s.drive.command)
      ∧ (s.aisle.state = .serving ∨ s.aisle.state = .idle → Vacant s → FollowsOpen s →
        u.aisle.state = s.aisle.state ∧ u.drive.command = .toOpen
          ∧ u.aisle.closeDelay
            = (if s.monitor.zones.zF then none else some (s.aisle.closeDelay.getD s.params.closeDelay))))

/-- Each credit's sighting entry with the outcome, oldest credit first (R74, R75). -/
def creditsSettled (o : Sighted) (s : State) : List Sighting :=
  s.aisle.credits.foldl (fun l c => settleSighting s.params.retention s.time.counter c.card o l) s.sightings

/-- The ABANDONED record of a credit that a FAULT removes (R112), with no flags, its context being long IDLE (assumption log
44). -/
def AbandonedRecord (c : Credit) : RecordData :=
  { kind := .abandoned, atEnd := some c.fromEnd, card := some c.card, reference := some c.kind.code }

/-- The drive is in FAULT with nothing left of its motion, FAULT is raised, and the aisle, but for EMERGENCY, is
OUT_OF_SERVICE without credits (R112, R125): each credit's sighting entry is UNUSED, and the journal took the FAULT record
and one ABANDONED record for each credit, oldest first, where there is room for them all. -/
def Faulted (c : FaultCause) (s u : State) : Prop :=
  u.drive.flap = .fault ∧ u.drive.motion = none ∧ u.drive.closeHold = false ∧ u.drive.holdTimer = none
    ∧ u.drive.pause = none ∧ u.drive.clearing = false ∧ u.station.attention.fault = true
    ∧ u.aisle.reservation = s.aisle.reservation
    ∧ (s.aisle.state = .emergency → u.aisle.state = .emergency ∧ u.queued = s.queued ∧ u.sightings = s.sightings
      ∧ (CanAppend s → Appended { kind := .fault, reference := some c.code } 0 s u))
    ∧ (s.aisle.state ≠ .emergency → u.aisle.state = .outOfService ∧ u.aisle.credits = []
      ∧ u.sightings = creditsSettled .unused s
      ∧ (s.journal.dropped = 0 → s.journal.room (1 + s.aisle.credits.length) = true →
        AppendedAll ({ kind := .fault, reference := some c.code } :: s.aisle.credits.map AbandonedRecord) s u)
      ∧ (s.journal.room 1 = false → u.journal.queue = s.journal.queue
        ∧ u.journal.dropped = min 65535 (s.journal.dropped + 1 + s.aisle.credits.length)))

/-- An emergency has started: stages 1 and 2 of R137 and R138, with R113 and R75: each credit's sighting entry is USED, and
the journal took EMERGENCY_START alone. -/
def EmergencyBegun (c : EmergencyCause) (s u : State) : Prop :=
  u.emergency.stamp = some (s.time.counter, s.time.valid)
    ∧ u.emergency.stage
        = some (if s.drive.flap ≠ .fault ∧ s.drive.openLimit.accepted = true then .released else .releasing)
    ∧ u.drive.flap
        = (if s.drive.flap = .fault then .fault else if s.drive.openLimit.accepted then .released else .opening)
    ∧ u.drive.closeHold = false ∧ u.drive.clearing = false ∧ u.drive.pause = none ∧ u.drive.buzzer = none
    ∧ u.aisle.state = .emergency ∧ u.aisle.credits = [] ∧ u.aisle.attention = false ∧ u.aisle.closeDelay = none
    ∧ u.aisle.reopenDelay = none ∧ u.aisle.reservation = s.aisle.reservation
    ∧ u.station.attention.emergency = true ∧ u.emergency.amnesty = s.emergency.amnesty
    ∧ u.sightings = creditsSettled .used s
    ∧ (CanAppend s → Appended { kind := .emergencyStart, reference := some c.code } 0 s u)

/-- An emergency whose start stamp is given has ended (R113, R139, R140). That a NORMALLY_CLOSED aisle with a reservation and
no credit takes CLOSE is the model's reading (assumption log 17). -/
def EmergencyOver (c : EmergencyCause) (stamp : Nat) (valid : Bool) (s u : State) : Prop :=
  u.emergency.stage = none ∧ u.emergency.stamp = none
    ∧ u.aisle.state
        = (if s.drive.flap = .fault then .outOfService
          else if s.aisle.reservation ≠ none then .serving
          else if s.params.serviceMode = .outOf then .outOfService else .idle)
    ∧ u.aisle.reservation = s.aisle.reservation ∧ u.queued = s.queued
    ∧ (s.drive.flap ≠ .fault → s.aisle.credits = [] → u.drive.command
        = (if s.params.aisleMode = .normallyOpen ∧ (s.aisle.reservation ≠ none ∨ s.params.serviceMode = .inService) then
            .toOpen else .toClose))
    ∧ u.emergency.amnesty
        = (if valid = true ∧ s.time.valid = true ∧ s.params.stationCode ≠ 255 then
            addWindow s.emergency.amnesty
              { station := s.params.stationCode
                fromMinute := min (stamp / 60) (s.time.counter / 60) - s.params.amnestyMargin
                toMinute := min 71582788 (max (stamp / 60) (s.time.counter / 60) + s.params.amnestyMargin) }
          else s.emergency.amnesty)
    ∧ (CanAppend s → Appended { kind := .emergencyEnd, reference := some c.code } 0 s u)

/-- The UNCONFIRMED record of R21 and R23. -/
def UnconfirmedRecord (e : End) (x : Txn) (image : CardImage) : RecordData :=
  { kind := .unconfirmed, atEnd := some e, flags := x.flags, card := some x.card, amount := some x.charge
    balance := some image.balance, cardSeq := some (x.presSeq + 1), reference := some x.kind.code }

/-- What holdover makes of the contexts (R23): the DECIDED one is recorded as unconfirmed into its reservation, a
waiting one is withdrawn without a trace, and IDLE ones leave journal and sightings alone. -/
def ContextsResolved (s u : State) : Prop :=
  (∀ e, s.ctx e = .idle → s.ctx e.other = .idle →
      u.journal = s.journal ∧ u.sightings = s.sightings ∧ u.au = s.au ∧ u.aisle.reservation = s.aisle.reservation)
    ∧ (∀ e x d image, s.ctx e = .decided x d → (s.ctx e.other).tag ≠ .decided → x.image = some image → CanComplete s →
      Appended (UnconfirmedRecord e x image) (1 + (s.ctx e.other).claims) s u
        ∧ u.au.lateCard = s.au.lateCard.set e (some x.card) ∧ u.aisle.reservation = none
        ∧ (s.ctx e.other = .idle → u.aisle.waiting = s.aisle.waiting
          ∧ u.sightings = settleSighting s.params.retention s.time.counter x.card
              (.unconfirmed (s.journal.lastSeq + 1)) s.sightings))
    ∧ ∀ e x d, s.ctx e = .waitAisle x d → s.ctx e.other = .idle →
      u.journal = { s.journal with reserved := s.journal.reserved - 1 }
        ∧ u.sightings = restoreSighting s.sightings x.card x.previous ∧ u.au.lateCard = s.au.lateCard
        ∧ u.aisle.waiting = s.aisle.waiting.set e false ∧ u.aisle.reservation = s.aisle.reservation

/-- What holdover makes of the operation in progress (R171): an erase is abandoned, a program goes on. An abandoned page
release leaves its marker programmed or not; an abandoned area has no completion record, its marker and blocks left open
(assumption log 5). -/
def EraseAbandoned (s u : State) : Prop :=
  (∀ p, s.store.busy = some (.pageRelease p) →
      u.store.busy = (if u.journal.queue = [] then none else some .record) ∧ u.flash.slots = s.flash.slots
        ∧ u.flash.areaOne = s.flash.areaOne ∧ u.flash.areaTwo = s.flash.areaTwo
        ∧ (u.flash.releaseMarkers = s.flash.releaseMarkers
          ∨ u.flash.releaseMarkers = s.flash.releaseMarkers.filter (fun q => q != p) ++ [p]))
    ∧ (∀ a d, s.store.busy = some (.tariff (.erase a) d) →
      u.store.busy = (if u.journal.queue = [] then none else some .record) ∧ u.flash.slots = s.flash.slots
        ∧ u.flash.releaseMarkers = s.flash.releaseMarkers ∧ (u.flash.area a).completion = none
        ∧ ∀ b, b ≠ a → u.flash.area b = s.flash.area b)
    ∧ ∀ o, s.store.busy = some o → (∀ p, o ≠ .pageRelease p) → (∀ a d, o ≠ .tariff (.erase a) d) →
      u.store.busy = some o ∧ u.flash = s.flash

/-- Holdover has started (R23, R93, R128, R144, R170, R171, R173). The model's choices in it: a waiting context's
sighting entry comes back (assumption log 38), a clearing motion stops as STOPPED (log 30), an abandoned erase leaves
its target open (log 5), and a holdover with nothing left to flush stands until its row (log 12). -/
def HoldoverBegun (forHalt : Bool) (c : Cause) (s u : State) : Prop :=
  u.store.run = .holdover forHalt ∧ u.store.cause = c ∧ u.ctx .a = .idle ∧ u.ctx .b = .idle
    ∧ u.drive.motion = none ∧ u.drive.pause = none ∧ u.drive.closeHold = false ∧ u.drive.clearing = false
    ∧ u.drive.buzzer = none ∧ u.drive.flap = (if s.drive.flap = .fault then .fault else .stopped)
    ∧ u.drive.lamps = s.drive.lamps
    ∧ u.aisle.closeDelay = none ∧ u.aisle.reopenDelay = none ∧ u.aisle.state = s.aisle.state ∧ u.queued = s.queued
    ∧ u.emergency.releaseTimer = none
    ∧ u.station.inbound = none ∧ u.station.reply = none ∧ u.station.direction = false ∧ u.deny.job = none
    ∧ u.deny.entries = s.deny.entries ∧ u.deny.generation = s.deny.generation
    ∧ u.tariff.pending.endCheck = none ∧ u.tariff.queue = s.tariff.queue
    ∧ ContextsResolved s u ∧ EraseAbandoned s u

/-- What a port keeps of a transfer whose select is low when STARTING begins: the READY level and the outward bytes of
its falling edge, no longer the response buffer's (assumption log 47). -/
def State.outlasting (s : State) (e : End) : Option Transfer :=
  (s.port e).transfer.map fun x => { x with fromBuffer := false, overrunSent := false }

/-- STARTING has begun: every block at its reset values but the backup domain, flash, the inputs' levels (R165), those
of the select lines among them, and the transfers given, those whose select stays low (assumption log 47). -/
def Started (c : Cause) (kept : End → Option Transfer) (s u : State) : Prop :=
  u.store.supply = true ∧ u.store.run = .starting ∧ u.store.cause = c ∧ u.store.busy = none
    ∧ u.flash = s.flash ∧ u.time.day = none
    ∧ u.pins = { s.pins with aisleNumber := s.pins.straps.val }
    ∧ u.ctx .a = .idle ∧ u.ctx .b = .idle ∧ u.au.lateCard = { a := none, b := none }
    ∧ (∀ e, u.port e =
        { request := none, buffer := none, waiting := [], decisionReady := false, serviceChanged := false,
          enableDecision := false, enableService := false, overrun := false, transfer := kept e, selectLow := (s.port e).selectLow,
          dataOut := [] })
    ∧ u.station.inbound = none ∧ u.station.reply = none ∧ u.station.direction = false ∧ u.station.attention = {}
    ∧ u.tariff.current = none ∧ u.tariff.pending.state = .empty ∧ u.tariff.queue = []
    ∧ u.sightings = [] ∧ u.deny.entries = [] ∧ u.deny.localOrder = [] ∧ u.deny.generation = 0
    ∧ u.deny.state = .empty ∧ u.deny.overflow = false ∧ u.deny.gap = false
    ∧ Vacant u ∧ u.aisle.owned = none ∧ u.aisle.lastServed = .b ∧ u.aisle.closeDelay = none
    ∧ u.aisle.reopenDelay = none ∧ u.aisle.attention = false
    ∧ u.monitor.zones = { zA := false, zF := false, zB := false } ∧ u.monitor.entrySide = none ∧ u.monitor.loiter = none
    ∧ u.drive.command = .toClose ∧ u.drive.motion = none ∧ u.drive.retryCount = 0 ∧ u.drive.closeHold = false
    ∧ u.drive.clearing = false ∧ u.drive.buzzer = none ∧ u.drive.bg1.high = true ∧ u.drive.bg2.high = true
    ∧ u.emergency.stage = none ∧ u.emergency.inputMark = false ∧ u.emergency.stationMark = false
    ∧ u.emergency.releaseTimer = none ∧ u.emergency.amnesty = []
    ∧ u.journal.queue = [] ∧ u.journal.eraseQueue = [] ∧ u.journal.reserved = 0 ∧ u.journal.dropped = 0
    ∧ u.params.stationCode = 255 ∧ u.params.serviceMode = .outOf ∧ u.params.orientation = .a
    ∧ u.params.aisleMode = .normallyClosed ∧ u.params.priority = { a := 4, b := 4 } ∧ u.params.commitDeadline = 1500

/-- The part answers a station frame of this aisle's number: it is not in HALT, its inbound buffer is free (R164, R181).
-/
def LineFree (s : State) : Prop :=
  s.listening = true ∧ s.station.inbound = none ∧ 1 ≤ s.pins.aisleNumber ∧ s.pins.aisleNumber ≤ 62

/-! ## Legal states -/

/-- R93, R133, R165: in STARTING the aisle is OUT_OF_SERVICE with nothing outstanding and no zone occupied, the flaps stand
where they are and the drive is at rest with the command CLOSE. -/
def StartingAtRest (s : State) : Prop :=
  s.store.run = .starting →
    s.aisle.state = .outOfService ∧ Vacant s ∧ s.monitor.zones = { zA := false, zF := false, zB := false }
      ∧ s.drive.flap = .stopped ∧ s.drive.command = .toClose ∧ s.drive.motion = none ∧ s.drive.pause = none
      ∧ s.drive.closeHold = false ∧ s.drive.holdTimer = none ∧ s.drive.clearing = false ∧ s.drive.retryCount = 0
      ∧ s.drive.obstructCount = 0

/-- R120: the flap drive is not CLOSING while the flap zone is occupied. -/
def ClosingClear (s : State) : Prop := s.drive.flap = .closing → s.monitor.zones.zF = false

/-- R77: the entries in card-number order, at most 8192, none twice; the local order names exactly the LOCAL entries, at
most 256. -/
def DenyList.WF (l : DenyList) : Prop :=
  (l.entries.map DenyEntry.card).Pairwise (· < ·) ∧ l.entries.length ≤ 8192 ∧ l.localOrder.length ≤ 256
    ∧ l.localOrder.Nodup ∧ ∀ c, c ∈ l.localOrder ↔ ∃ e ∈ l.entries, e.card = c ∧ e.origin = .aisle

/-- R59, R71: no two sighting entries of one card number; a context's saved entry is its own card's. -/
def SightingsWF (s : State) : Prop :=
  (s.sightings.map Sighting.card).Nodup
    ∧ ∀ e t p, (s.ctx e).txn = some t → t.previous = some p → p.card = t.card

/-- R59, R60: at most 512 entries. The DECIDED entries are those of the live contexts, each linked to its own; the
PENDING ones are those of the credits, one each; and what a context saved was not pinned. -/
def SightingsLinked (s : State) : Prop :=
  s.sightings.length ≤ 512
    ∧ (∀ e t, (s.ctx e).txn = some t → ∃ x ∈ s.sightings, x.card = t.card ∧ x.outcome = .decided e)
    ∧ (∀ x ∈ s.sightings, ∀ e, x.outcome = .decided e → ∃ t, (s.ctx e).txn = some t ∧ t.card = x.card)
    ∧ (∀ c ∈ s.aisle.credits, ∃ x ∈ s.sightings, x.card = c.card ∧ x.outcome = .pending)
    ∧ (∀ x ∈ s.sightings, x.outcome = .pending → ∃ c ∈ s.aisle.credits, c.card = x.card)
    ∧ (s.aisle.credits.map Credit.card).Nodup
    ∧ ∀ e t p, (s.ctx e).txn = some t → t.previous = some p → p.outcome.pinned = false

/-- R130's table: the GO and STOP lamps of end `e`. -/
def lampTable (a : Arbiter) (f : FlapState) (e : End) : LampPair :=
  if a.attention = true ∧ (a.state = .idle ∨ a.state = .serving ∨ a.state = .outOfService) then
    { go := .off, stop := .bg1 }
  else
    match a.state with
    | .idle => { go := .steady, stop := .off }
    | .serving =>
      if a.owned ≠ some (endDir e) then { go := .off, stop := .steady }
      else if a.credits = [] then { go := .bg1, stop := .off } else { go := .steady, stop := .off }
    | .violation => { go := .off, stop := .bg2 }
    | .emergency => if f = .released then { go := .steady, stop := .off } else { go := .bg1, stop := .off }
    | .outOfService => { go := .off, stop := .steady }

/-- R130: in RUN the lamps are those of the table. -/
def LampsShown (s : State) : Prop :=
  s.running = true → ∀ e, s.drive.lamps.get e = lampTable s.aisle s.drive.flap e

/-- R158: each page newly in the erase queue is RELEASED and holds no record above the mark. -/
def NewlyReleasedCollected (s t : State) : Prop :=
  ∀ p ∈ t.journal.eraseQueue, p ∉ s.journal.eraseQueue →
    t.journal.pages.getD p .erased = .released ∧ ∀ r ∈ recordsIn (t.flash.pageSlots p), r.sequence ≤ t.journal.mark

/-- R148: the reserved count does not exceed the free count. -/
def Journal.ReservedFits (j : Journal) : Prop := j.reserved ≤ j.free

/-- R149: the write queue's sequences rise strictly and none is above the last one taken. -/
def Journal.Rising (j : Journal) : Prop :=
  (j.queue.map Record.sequence).Pairwise (· < ·) ∧ ∀ r ∈ j.queue, r.sequence ≤ j.lastSeq

/-- R81, R89, R182: a station port with no frame in its buffer has no reply in hand, a reply being sent is in hand, and
a deny update or a TARIFF_END in hand is the unanswered frame in the buffer. -/
def BufferMatches (s : State) : Prop :=
  (s.station.inbound = none → s.station.reply = none) ∧ (s.station.direction = true → s.station.reply ≠ none)
    ∧ (s.deny.job ≠ none → s.station.reply = none
      ∧ ∃ b, s.station.inbound = some b ∧ (b.kind = 11 ∨ b.kind = 12))
    ∧ (s.tariff.pending.endCheck ≠ none → s.station.reply = none ∧ ∃ b, s.station.inbound = some b ∧ b.kind = 17)
    ∧ (s.store.run ≠ .run → s.deny.job = none ∧ s.tariff.pending.endCheck = none)

/-- Flash's canonical form: slot numbers strictly rising. -/
def Flash.Canonical (f : Flash) : Prop := (f.slots.map Prod.fst).Pairwise (· < ·)

/-- R4, R148: the reserved count is the number of contexts outside IDLE; outside RUN both are IDLE. -/
def ReservedMatches (s : State) : Prop :=
  s.journal.reserved = (s.ctx .a).claims + (s.ctx .b).claims
    ∧ (s.store.run ≠ .run → s.ctx .a = .idle ∧ s.ctx .b = .idle)

/-- The reservation counted with the credits (R92). -/
def Arbiter.held (a : Arbiter) : Nat := if a.reservation.isSome then 1 else 0

/-- R92, R100: the claims on the aisle. A decided context, and it alone, holds the reservation; what is outstanding owns
the direction; an aisle at rest has nothing outstanding; credits and reservation are at most 3. -/
def ClaimsMatch (s : State) : Prop :=
  s.aisle.credits.length + s.aisle.held ≤ 3
    ∧ (∀ e, s.aisle.reservation = some e ↔ (s.ctx e).tag = .decided)
    ∧ (∀ e, s.aisle.reservation = some e → s.aisle.owned = some (endDir e))
    ∧ (∀ c ∈ s.aisle.credits, s.aisle.owned = some (endDir c.fromEnd))
    ∧ (s.aisle.state = .idle → s.aisle.owned = none)
    ∧ (s.aisle.state = .outOfService ∨ s.aisle.state = .emergency → s.aisle.credits = [])
    ∧ (s.aisle.state = .outOfService → s.aisle.reservation ≠ none → s.drive.faulted = true)

/-- R113, R137, R139: the aisle is in EMERGENCY exactly while an emergency stands. -/
def EmergencyAgrees (s : State) : Prop := s.aisle.state = .emergency ↔ s.emergency.stage ≠ none

/-- R24: the seconds counter is a 32-bit count. -/
def CounterBounded (s : State) : Prop := s.time.counter ≤ 4294967295

/-- R141: at most 8 amnesty windows. -/
def AmnestyBounded (s : State) : Prop := s.emergency.amnesty.length ≤ 8

end Sys2Proof.Machine
end

