-- ==== Sys2Proof/Certificates/Slice0/Obligations.lean ====
section
/-! DEFINITION. The statements for the provers, family by family. -/

open Sys2Proof Sys2Proof.Machine

/-! ## The queue -/

/-- The model's own rule for a block's queue (assumption log 1): a step runs the command in front on the state with the
queue's rest. -/
def Obligations.StepTakesFront : Prop :=
  ∀ (s : State) (c : Instr) (q : List Instr), s.pending = c :: q → step s = exec c (s.withPending q)

/-- No command stops the part. That none touches the queue is the model's own rule for it (assumption log 1). -/
def Obligations.EveryCommandCompletes : Prop :=
  ∀ (c : Instr) (s : State), ∃ t, exec c s = .next t ∧ t.pending = s.pending

/-! ## What every step keeps -/

/-- R93, R120, R133, R165: the flaps are never CLOSING while the flap zone is occupied; in STARTING they are not moved, and
aisle and drive stand at rest with the command CLOSE. -/
def Obligations.FlapsMoveAsAllowed : Prop :=
  (∀ s t : State, ClosingClear s → step s = .next t → ClosingClear t)
    ∧ ∀ s t : State, StartingAtRest s → step s = .next t → StartingAtRest t

/-- R77, R81, R89, R182: the deny list's order, sizes and local order; and a deny update in hand is the unanswered frame
in the inbound buffer. -/
def Obligations.DenyListKeepsItsForm : Prop :=
  (∀ s t : State, s.deny.WF → step s = .next t → t.deny.WF)
    ∧ ∀ s t : State, BufferMatches s → step s = .next t → BufferMatches t

/-- R59, R60, R62, R71: one sighting entry a card number; at most 512 of them, and the pinned ones linked one to one to
the live contexts and the credits. -/
def Obligations.SightingsKeepOneEach : Prop :=
  (∀ s t : State, SightingsWF s → step s = .next t → SightingsWF t)
    ∧ ∀ s t : State, SightingsWF s → ClaimsMatch s → SightingsLinked s → step s = .next t → SightingsLinked t

/-- R149, R158: journal sequences rise along the write queue and none is above the last taken. A page that any event but
the end of start-up puts into the erase queue is RELEASED and holds no record above the mark. -/
def Obligations.JournalQueueRises : Prop :=
  (∀ s t : State, s.journal.Rising → step s = .next t → t.journal.Rising)
    ∧ ∀ s t : State, s.store.run ≠ .starting → step s = .next t → NewlyReleasedCollected s t

/-- R4, R148: the reserved count is the number of contexts outside IDLE, and outside RUN there are none; it never exceeds 2
and never exceeds the free count. -/
def Obligations.ReservationsMatchContexts : Prop :=
  (∀ s t : State, ReservedMatches s → step s = .next t → ReservedMatches t ∧ t.journal.reserved ≤ 2)
    ∧ ∀ s t : State, s.journal.ReservedFits → step s = .next t → t.journal.ReservedFits

/-- R92, R95, R99, R100: claims on the aisle are at most three, own its direction, and a DECIDED context, and it alone,
holds the reservation; the wait slots are those of the contexts that wait. -/
def Obligations.AisleClaimsMatch : Prop :=
  (∀ s t : State, ClaimsMatch s → step s = .next t → ClaimsMatch t)
    ∧ ∀ s t : State, SlotsMatch s → step s = .next t → SlotsMatch t

/-- R113, R137, R139: the aisle is in EMERGENCY exactly while an emergency stands. -/
def Obligations.AisleFollowsEmergency : Prop :=
  ∀ s t : State, EmergencyAgrees s → step s = .next t → EmergencyAgrees t

/-- R130: in RUN the lamps of both ends are those of the table, whatever the event. -/
def Obligations.LampsFollowTheAisle : Prop :=
  ∀ s t : State, LampsShown s → step s = .next t → LampsShown t

/-- R24, R141 and flash's one form: the counter's width, the amnesty list's length, the order of the slots. -/
def Obligations.BoundsAreKept : Prop :=
  ∀ s t : State, step s = .next t →
    (s.flash.Canonical → t.flash.Canonical) ∧ (CounterBounded s → CounterBounded t)
      ∧ (AmnestyBounded s → AmnestyBounded t)

/-- The state after reset is legal in every sense above. -/
def Obligations.ResetIsLegal : Prop :=
  ClosingClear State.reset ∧ StartingAtRest State.reset ∧ State.reset.journal.ReservedFits ∧ State.reset.deny.WF
    ∧ SightingsWF State.reset ∧ SightingsLinked State.reset ∧ State.reset.journal.Rising ∧ ReservedMatches State.reset ∧ ClaimsMatch State.reset ∧ SlotsMatch State.reset
    ∧ EmergencyAgrees State.reset ∧ BufferMatches State.reset ∧ LampsShown State.reset
    ∧ State.reset.flash.Canonical ∧ CounterBounded State.reset ∧ AmnestyBounded State.reset

/-- R178: an event of RUN that changes the service summary sets SERVICE_CHANGED at both ports, and so does a millisecond
of an empty queue (assumption log 4). -/
def Obligations.SummaryChangesAreFlagged : Prop :=
  ∀ s t : State, (s.pending = [] ∧ step s = .next t ∨ ∃ c : Instr, exec c s = .next t) → s.running = true →
    t.running = true → s.summary ≠ t.summary → ∀ e, (t.port e).serviceChanged = true

/-! ## Frames (12.2, 12.5, 12.9) -/

/-- The decoders of the ports give back every request their encoders spell: an end port's whole frame (12.2, 12.9), a
station request's kind and payload (12.5, 12.9). -/
def Obligations.RequestsDecode : Prop :=
  (∀ r : EndRequest, r.fits = true → judgeInward r.frame = .request r)
    ∧ ∀ r : StationRequest, r.fits = true → r.payload.length ≤ 120 ∧ decodeStation r.kind r.payload = .request r

/-- R180, R181, R183: what a frame on the line is, at its bit rate and address. A request's frame to this aisle, or
broadcast, is that request, the row of assumption log 9, with the rate measured. A rate out of range, another address, a
length above 120 or a wrong check leave no trace but what the port waits for and, the rate being in range, the measured
rate, the model's reading (assumption log 29); so does an addressed frame while the buffer is held. A broadcast of a
kind not let be broadcast has no effect, and sets BCAST_MISSED only where the buffer is held (log 29). A broadcast that
finds the buffer held, or comes in STARTING or HOLDOVER, sets BCAST_MISSED. A kind or a payload length that is none is
answered UNKNOWN or BAD_VALUE. A frame whose break cancels a reply in hand finds the buffer free, and after a RESTART so
cancelled the part in HOLDOVER. -/
def Obligations.StationFramesAreJudged : Prop :=
  ∀ (rate : Nat) (s : State), s.listening = true →
    (∀ heard ignored : State, heard = s.withStation { s.station with receive := .waitBreak, bitRate := some rate } →
      ignored = s.withStation { s.station with receive := .waitBreak } → s.station.inbound = none →
      (rate < 9312 ∨ 237312 < rate → ∀ bs, exec (.stationFrame rate bs) s = .next ignored.flashKick)
      ∧ (9312 ≤ rate → rate ≤ 237312 →
        (∀ r : StationRequest, r.fits = true → PortFree s →
          ∃ u, exec (.stationFrame rate (r.frame s.pins.aisleNumber)) s = .next u
            ∧ exec r.command (s.withStation { s.station with bitRate := some rate }) = .next u)
        ∧ (∀ (r : StationRequest) (c : Instr), r.fits = true → r.broadcastCommand = some c →
          ∃ u, exec (.stationFrame rate (r.frame 63)) s = .next u
            ∧ exec c (s.withStation { s.station with bitRate := some rate }) = .next u
            ∧ (s.running = false → u = State.flashKick (s.withStation { heard.station with
                reply := none, attention := { s.station.attention with bcastMissed := true } })))
        ∧ (∀ (k : Nat) (p : List Byte), k < 256 → k ∉ [2, 5, 7, 8, 9, 10, 11, 12, 13] → p.length ≤ 120 →
          exec (.stationFrame rate (stationFrame 63 k p)) s
            = .next (State.flashKick (s.withStation { heard.station with reply := none })))
        ∧ (∀ bs, numField bs 0 1 ≠ 63 →
          (numField bs 0 1 ≠ s.pins.aisleNumber ∨ s.pins.aisleNumber = 0 ∨ s.pins.aisleNumber = 63) →
          exec (.stationFrame rate bs) s = .next heard.flashKick)
        ∧ (∀ bs n, n = numField bs 2 1 →
          (120 < n ∨ bs.length < n + 4 ∨ numField bs (n + 3) 1 ≠ crc8 (bs.take (n + 3))) →
          exec (.stationFrame rate bs) s = .next heard.flashKick)
        ∧ (∀ (k : Nat) (p : List Byte), k < 256 → p.length ≤ 120 → PortFree s →
          (25 < k ∨ k = 0 → exec (.stationFrame rate (stationFrame s.pins.aisleNumber k p)) s
            = .next (s.withStation (heard.station.answered .addressed k (bare .unknown))).flashKick)
          ∧ (decodeStation k p = .badLength → exec (.stationFrame rate (stationFrame s.pins.aisleNumber k p)) s
            = .next (s.withStation (heard.station.answered .addressed k (bare .badValue))).flashKick))))
    ∧ (∀ (r : StationRequest) (b : Inbound) (kept : StationPort), r.fits = true → 9312 ≤ rate → rate ≤ 237312 →
      s.station.inbound = some b → (b.form = .broadcast ∨ s.station.direction = true ∨ s.station.reply = none) →
      1 ≤ s.pins.aisleNumber → s.pins.aisleNumber ≤ 62 →
      kept = { s.station with
        receive := .waitBreak, bitRate := some rate
        inbound := some { b with
          cancelled := b.cancelled || (decide (b.form = .addressed) && !s.station.direction) } } →
      exec (.stationFrame rate (r.frame s.pins.aisleNumber)) s = .next (s.withStation kept).flashKick
      ∧ (∀ bs, numField bs 0 1 = 63 → numField bs 2 1 ≤ 120 → numField bs 2 1 + 4 ≤ bs.length →
        numField bs (numField bs 2 1 + 3) 1 = crc8 (bs.take (numField bs 2 1 + 3)) →
        exec (.stationFrame rate bs) s = .next (State.flashKick (s.withStation { kept with
          attention := { s.station.attention with bcastMissed := true } }))))
    ∧ (∀ (b : Inbound) (x : Reply), s.station.inbound = some b → b.form = .addressed → s.station.direction = false →
      s.station.reply = some x →
      (b.kind ≠ 25 ∨ s.running = false ∨ x.status ≠ .ok → ∀ bs, exec (.stationFrame rate bs) s
        = exec (.stationFrame rate bs) (s.withStation { s.station with inbound := none, reply := none }))
      ∧ (∀ r : StationRequest, b.kind = 25 → s.running = true → x.status = .ok → r.fits = true → r ≠ .info →
        9312 ≤ rate → rate ≤ 237312 → 1 ≤ s.pins.aisleNumber → s.pins.aisleNumber ≤ 62 →
        ∃ u, exec (.stationFrame rate (r.frame s.pins.aisleNumber)) s = .next u
          ∧ u.store.run = .holdover false ∧ u.store.cause = .stationRestart
          ∧ u.station.inbound = some { form := .addressed, kind := r.kind, cancelled := false }
          ∧ u.station.reply = some { kind := r.kind, status := .notReady, payload := [] }))

/-- R174 to R177: a transfer that carries a request's frame to a ready port is that request, after the outward frame was
judged; orders 3 to 6 of R175 answer the frames that are none. The rows of the requests themselves are those of
assumption log 7. A transfer that no TRANSFER_BEGIN began begins and ends in the one event, the model's choice
(assumption log 8). -/
def Obligations.TransferIsItsRequest : Prop :=
  ∀ (e : End) (spare : Nat) (s : State), s.running = true →
    (∀ r : EndRequest, r.fits = true → (s.port e).request = none → (s.port e).waiting = [] → (s.port e).buffer = none →
      (s.port e).transfer = none → (s.port e).selectLow = false →
      exec (.endPortTransfer e r.frame spare) s
        = exec (r.command e)
            (s.setPort e { s.port e with
              dataOut := (emptyFrame ++ List.replicate r.frame.length 0).take r.frame.length }))
    ∧ ∀ x : Transfer, (s.port e).transfer = some x → x.ready = true →
      (∀ r : EndRequest, r.fits = true →
        ((x.fromBuffer = false ∨ r.frame.length < x.outward.length) →
          exec (.endPortTransfer e r.frame spare) s
            = exec (r.command e) (s.setPort e { s.port e with
                transfer := none, selectLow := false
                dataOut := (x.outward ++ List.replicate r.frame.length 0).take r.frame.length }))
        ∧ (∀ p : Posted, x.fromBuffer = true → (s.port e).buffer = some p → x.outward.length ≤ r.frame.length →
          exec (.endPortTransfer e r.frame spare) s
            = exec (r.command e) (s.setPort e { s.port e with
                transfer := none, selectLow := false
                dataOut := x.outward ++ List.replicate (r.frame.length - x.outward.length) 0
                buffer := (s.port e).waiting.head?
                waiting := (s.port e).waiting.tail
                overrun := (s.port e).overrun && !x.overrunSent
                decisionReady := (s.port e).decisionReady && !(p.late && !(s.port e).waiting.any Posted.late) })))
      ∧ ∀ (inward : List Byte) (k n : Nat) (answer : Response → State), k = numField inward 0 1 → n = numField inward 1 1 →
        k ≠ 0 → (x.fromBuffer = false ∨ inward.length < x.outward.length) →
        (∀ q, answer q = ((s.setPort e { s.port e with
          transfer := none, selectLow := false
          dataOut := (x.outward ++ List.replicate inward.length 0).take inward.length }).respond e q).flashKick) →
        (120 < n → exec (.endPortTransfer e inward spare) s = .next (answer .badLength))
        ∧ (n ≤ 120 → (inward.length < n + 3 ∨ numField inward (n + 2) 1 ≠ crc8 (inward.take (n + 2))) →
          exec (.endPortTransfer e inward spare) s = .next (answer .frameError))
        ∧ (n ≤ 120 → n + 3 ≤ inward.length → numField inward (n + 2) 1 = crc8 (inward.take (n + 2)) →
          (5 < k → exec (.endPortTransfer e inward spare) s = .next (answer .unknownRequest))
          ∧ (k = 1 ∧ n ≠ 30 ∨ (k = 2 ∨ k = 3) ∧ n ≠ 8 ∨ k = 4 ∧ n ≠ 0 ∨ k = 5 ∧ n ≠ 1 →
            exec (.endPortTransfer e inward spare) s = .next (answer .badLength)))

/-! ## Transfers (R174, R175, R178) -/

/-- R174, R175, R178: the falling edge of select fixes the READY level and the outward frame; a frame clocked out whole
leaves the response buffer and the next one moves in, OVERRUN going with the bit that carried it and DECISION_READY with
the last late decision; a response not clocked out whole stays; a frame given to a port whose READY was low is discarded
with OVERRUN, whatever was clocked out. In HALT and without supply the port holds no transfer; one whose select fell or
stayed low there and rises later is one whose READY was low, the model's reading (assumption log 47). That a
TRANSFER_BEGIN with select low already changes nothing, and that a transfer in which no whole byte is clocked is an empty
frame and no FRAME_ERROR, are the model's choices (assumption logs 6, 8). -/
def Obligations.TransfersCarryFrames : Prop :=
  ∀ (e : End) (s : State),
    (s.listening = true → (s.port e).transfer = none → (s.port e).selectLow = false →
      exec (.transferBegin e) s = .next (s.setPort e { s.port e with
        selectLow := true
        transfer := some
          { ready := s.running && (s.port e).request.isNone && (s.port e).waiting.isEmpty
            outward := match (s.port e).buffer with
              | none => [0, 0, 0]
              | some p => responseFrame (s.port e).overrun p.response
            fromBuffer := (s.port e).buffer.isSome
            overrunSent := (s.port e).buffer.isSome && (s.port e).overrun } }))
    ∧ (∀ (n spare : Nat) (x : Transfer) (p : Posted), s.listening = true → (s.port e).transfer = some x →
        x.fromBuffer = true → (s.port e).buffer = some p → x.outward.length ≤ n →
        exec (.endPortTransfer e (List.replicate n 0) spare) s = .next (s.setPort e { s.port e with
          transfer := none, selectLow := false
          dataOut := x.outward ++ List.replicate (n - x.outward.length) 0
          buffer := (s.port e).waiting.head?
          waiting := (s.port e).waiting.tail
          overrun := (s.port e).overrun && !x.overrunSent
          decisionReady := (s.port e).decisionReady && !(p.late && !(s.port e).waiting.any Posted.late) }).flashKick)
    ∧ (∀ (n spare : Nat) (x : Transfer), s.listening = true → (s.port e).transfer = some x → x.fromBuffer = true →
        n < x.outward.length →
        exec (.endPortTransfer e (List.replicate n 0) spare) s = .next (s.setPort e { s.port e with
          transfer := none, selectLow := false, dataOut := x.outward.take n }).flashKick)
    ∧ (∀ (inward : List Byte) (spare : Nat) (x : Transfer) (p : Posted), s.listening = true →
        (s.port e).transfer = some x → x.fromBuffer = true → (s.port e).buffer = some p → x.ready = false →
        numField inward 0 1 ≠ 0 →
        (x.outward.length ≤ inward.length →
          exec (.endPortTransfer e inward spare) s = .next (s.setPort e { s.port e with
            transfer := none, selectLow := false, overrun := true
            dataOut := x.outward ++ List.replicate (inward.length - x.outward.length) 0
            buffer := (s.port e).waiting.head?
            waiting := (s.port e).waiting.tail
            decisionReady := (s.port e).decisionReady && !(p.late && !(s.port e).waiting.any Posted.late) }).flashKick)
        ∧ (inward.length < x.outward.length →
          exec (.endPortTransfer e inward spare) s = .next (s.setPort e { s.port e with
            transfer := none, selectLow := false, overrun := true, dataOut := x.outward.take inward.length }).flashKick))
    ∧ (∀ (inward : List Byte) (spare : Nat) (x : Transfer), s.listening = true → numField inward 0 1 ≠ 0 →
        ((s.port e).transfer = some x ∧ x.ready = false ∧ x.fromBuffer = false
          ∨ (s.port e).transfer = none ∧ (s.port e).selectLow = true ∧ x.outward = [0, 0, 0]) →
        exec (.endPortTransfer e inward spare) s = .next (s.setPort e { s.port e with
          transfer := none, selectLow := false, overrun := true
          dataOut := (x.outward ++ List.replicate inward.length 0).take inward.length }).flashKick)
    ∧ (s.listening = false →
      ((s.port e).transfer = none → exec (.transferBegin e) s
          = .next (s.setPort e { s.port e with selectLow := true }))
      ∧ ∀ inward spare, exec (.endPortTransfer e inward spare) s
          = .next (s.setPort e { s.port e with transfer := none, selectLow := false }))
    ∧ ((s.port e).transfer ≠ none ∨ (s.port e).selectLow = true → exec (.transferBegin e) s = .next s)

/-! ## Card transactions (chapter 1) -/

/-- R1, R2, R6, R8: step 1 takes the first of its six conditions, and the refusal leaves the context as it stood; step 3
refuses an image with a field out of its range, an empty key slot or a wrong check, and step 4 a sequence of 65,535.
Nothing else changes, whatever the deny list says of the number. -/
def Obligations.PresentRefusedInOrder : Prop :=
  (∀ (e : End) (i : CardImage) (s : State) (r : Reason) (c : Option SubCause), s.running = true →
      (if s.aisle.state = .emergency then (r, c) = (.emergency, none)
        else if s.params.stationCode = 255 ∨ s.pins.aisleNumber = 0 ∨ s.pins.aisleNumber = 63 then
          (r, c) = (.outOfService, some .notConfigured)
        else if s.time.valid = false then (r, c) = (.outOfService, some .timeInvalid)
        else if s.tariff.current = none then (r, c) = (.outOfService, some .noTariff)
        else if s.params.serviceMode = .outOf then (r, c) = (.outOfService, some .stationMode)
        else s.aisle.state = .outOfService ∧ (s.drive.flap = .fault ∨ s.drive.clearing = true)
          ∧ (r, c) = (.outOfService, some .fault)) →
      exec (.present e i) s = .next ((s.setLateCard e none).respond e (.decision (.refused r c))).flashKick)
    ∧ (∀ (t : Tariff) (i : CardImage), t.accepts i = true ↔
      1 ≤ i.card ∧ i.cls ≤ 7 ∧ i.state ≤ 1 ∧ -99999 ≤ i.balance ∧ i.balance ≤ 999999 ∧ i.entryTime ≤ 71582788
        ∧ i.entryAisle ≤ 62 ∧ i.keyIndex ≤ 3
        ∧ ∃ k, t.key i.keyIndex = some k ∧ i.check = crc16 (k ++ imageBody i))
    ∧ ∀ (e : End) (i : CardImage) (t : Tariff) (s : State), s.running = true → s.serviceRefusal = none →
        s.tariff.current = some t → s.ctx e = .idle →
        (t.accepts i = false →
          exec (.present e i) s = .next ((s.setLateCard e none).respond e (.decision (.refused .recordInvalid none))).flashKick)
        ∧ (t.accepts i = true → i.sequence = 65535 →
          exec (.present e i) s = .next ((s.setLateCard e none).respond e (.decision (.refused .cardExhausted none))).flashKick)

/-- R7, R19, R20: a request a context cannot take is answered SEQUENCE_ERROR, NO_CONTEXT or COMMIT_LATE, and nothing
else changes but the late card a PRESENT clears. -/
def Obligations.UntakenRequestsChangeNothing : Prop :=
  ∀ (e : End) (i : CardImage) (card : Nat) (s : State), s.running = true →
    ((s.ctx e).live = true → s.serviceRefusal = none →
      exec (.present e i) s = .next ((s.setLateCard e none).respond e .sequenceError).flashKick)
    ∧ (s.ctx e = .idle → exec (.commit e card) s = .next (s.respond e
        (if s.au.lateCard.get e = some card then .commitLate else .noContext)).flashKick)
    ∧ (s.ctx e = .idle → exec (.abort e card) s = .next (s.respond e .noContext).flashKick)
    ∧ (∀ x d, s.ctx e = .waitAisle x d → exec (.commit e card) s = .next (s.respond e .sequenceError).flashKick)
    ∧ (∀ x d, (s.ctx e = .waitAisle x d ∨ s.ctx e = .decided x d) → x.card ≠ card →
        exec (.commit e card) s = .next (s.respond e .sequenceError).flashKick
          ∧ exec (.abort e card) s = .next (s.respond e .sequenceError).flashKick)

/-- R9: step 5 refuses a number on the deny list and records it. -/
def Obligations.ListedCardDenied : Prop :=
  ∀ (e : End) (i : CardImage) (t : Tariff) (d : DenyEntry) (s : State), s.running = true → s.serviceRefusal = none →
    s.tariff.current = some t → s.ctx e = .idle → t.accepts i = true → i.sequence ≠ 65535 →
    s.deny.find i.card = some d → CanAppend s →
    ∃ u, exec (.present e i) s = .next u ∧ Unchanged [.au, .ports, .journal, .station, .busy] s u
      ∧ u.au = { s.au with lateCard := s.au.lateCard.set e none }
      ∧ PortAnswers e (.decision (.refused .denied none)) s u
      ∧ Appended { kind := .denied, atEnd := some e, card := some i.card, reference := some d.reason } 0 s u

/-- R61, R63 to R68: the table's judgement of a presentation. No entry, or an expired one, answers continue; each
outcome its own table, by the presented sequence, balance, end and role. -/
def Obligations.SightingsAreJudged : Prop :=
  (∀ (s : State) (card : Nat), s.lookupSighting card
      = (findSighting s.sightings card).filter fun x =>
        x.outcome.pinned || decide (s.time.counter - x.time ≤ 60 * s.params.retention))
    ∧ ∀ p : Presentation, judge none p = .continue
      ∧ ∀ x : Sighting,
        (∀ e, x.outcome = .decided e → judge (some x) p = .cloneSuspect x.oldSeq)
        ∧ (x.outcome = .pending →
          (p.image.sequence < x.newSeq → judge (some x) p = .cloneSuspect x.newSeq)
          ∧ (p.image.sequence = x.newSeq → p.atEnd = x.fromEnd → judge (some x) p = .alreadyGranted)
          ∧ (p.image.sequence = x.newSeq → p.atEnd ≠ x.fromEnd → judge (some x) p = .passback)
          ∧ (x.newSeq < p.image.sequence → judge (some x) p = .alreadyGranted))
        ∧ (∀ n, x.outcome = .unconfirmed n → x.newSeq = x.oldSeq + 1 →
          (p.image.sequence < x.oldSeq → judge (some x) p = .cloneSuspect x.oldSeq)
          ∧ (p.image.sequence = x.oldSeq → judge (some x) p = .continue)
          ∧ (p.image.sequence = x.newSeq → x.kind = p.role → judge (some x) p = .recovery n)
          ∧ (p.image.sequence = x.newSeq → x.kind ≠ p.role → judge (some x) p = .continue)
          ∧ (x.newSeq < p.image.sequence → judge (some x) p = .continue))
        ∧ (x.outcome = .used ∨ x.outcome = .unused →
          (p.image.sequence < x.newSeq → judge (some x) p = .cloneSuspect x.newSeq)
          ∧ (x.newSeq < p.image.sequence → judge (some x) p = .continue)
          ∧ (p.image.sequence = x.newSeq → p.image.balance ≠ x.balance → judge (some x) p = .cloneSuspect x.newSeq)
          ∧ (p.image.sequence = x.newSeq → p.image.balance = x.balance →
            judge (some x) p =
              if x.outcome = .unused ∧ x.kind = p.role ∧ p.now - x.time ≤ 60 * p.retapWindow then .retap
              else if x.outcome = .used ∧ p.atEnd = p.entryEnd ∧ p.image.state = 1 ∧ p.image.entryStation = p.station
                ∧ p.now / 60 - p.image.entryTime ≤ p.retapWindow then .passback
              else .continue))

/-- R10, R22, R69, R78, R88: step 6 answers PASSBACK and ALREADY_GRANTED with nothing else changed. CLONE_SUSPECT
appends the CLONE record, adds the number to the deny list as LOCAL with reason CLONE, the oldest LOCAL entry going when
there is no room, or sets OVERFLOW when none can go; it sets CLONE_DETECTED, and the insert holds the other end's
DECIDED context of that card, or ends its wait in a late DENIED refusal with its record, whose flags are empty
(assumption log 44); the wait's journal reservation is released before that record is appended, so the pool has its slot
(assumption log 24). -/
def Obligations.JudgedCardRefused : Prop :=
  ∀ (e : End) (i : CardImage) (t : Tariff) (j : Judgement) (s : State), s.running = true → s.serviceRefusal = none →
    s.tariff.current = some t → s.ctx e = .idle → t.accepts i = true → i.sequence ≠ 65535 →
    s.deny.find i.card = none → judge (s.lookupSighting i.card) (s.presentation e t i) = j →
    (j = .passback →
      exec (.present e i) s = .next ((s.setLateCard e none).respond e (.decision (.refused .passback none))).flashKick)
    ∧ (j = .alreadyGranted → exec (.present e i) s
        = .next ((s.setLateCard e none).respond e (.decision (.refused .alreadyGranted none))).flashKick)
    ∧ ∀ n added, j = .cloneSuspect n → added = { card := i.card, origin := .aisle, reason := 1, added := s.time.counter } →
      s.deny.WF →
      (NoWaits s → (s.ctx e.other).tag ≠ .waitAisle → CanAppend s →
        ∃ u, exec (.present e i) s = .next u
          ∧ Unchanged [.au, .ports, .deny, .journal, .station, .aisle, .drive, .emergency, .busy] s u
          ∧ u.au.lateCard = s.au.lateCard.set e none ∧ u.ctx e = .idle
          ∧ u.queued = s.queued ∧ u.aisle.reservation = s.aisle.reservation
          ∧ Appended { kind := .clone, atEnd := some e, card := some i.card, cardSeq := some i.sequence
                       reference := some n } 0 s u
          ∧ u.station.attention.cloneDetected = true
          ∧ PortAnswers e (.decision (.refused .cloneSuspect none)) s u
          ∧ u.deny.generation = s.deny.generation ∧ u.deny.state = s.deny.state
          ∧ (s.deny.localOrder.length < 256 → s.deny.entries.length < 8192 →
            u.deny.find i.card = some added ∧ (∀ c, c ≠ i.card → u.deny.find c = s.deny.find c)
              ∧ u.deny.localOrder = s.deny.localOrder ++ [i.card] ∧ u.deny.overflow = s.deny.overflow)
          ∧ (∀ c cs, s.deny.localOrder = c :: cs → 256 ≤ s.deny.localOrder.length ∨ 8192 ≤ s.deny.entries.length →
            u.deny.find i.card = some added ∧ u.deny.find c = none
              ∧ (∀ k, k ≠ i.card → k ≠ c → u.deny.find k = s.deny.find k)
              ∧ u.deny.localOrder = cs ++ [i.card] ∧ u.deny.overflow = s.deny.overflow)
          ∧ (s.deny.localOrder = [] → 8192 ≤ s.deny.entries.length →
            u.deny = { s.deny with overflow := true } ∧ u.station.attention.denyOverflow = true
              ∧ u.ctx e.other = s.ctx e.other)
          ∧ (s.deny.localOrder ≠ [] ∨ s.deny.entries.length < 8192 →
            ∀ x d, s.ctx e.other = .decided x d → u.ctx e.other
              = .decided { x with flags := { x.flags with held := x.flags.held || x.card == i.card } } d))
      ∧ (∀ x d, s.ctx e.other = .waitAisle x d → x.card = i.card → s.aisle.waiting.get e = false → CanAppend s →
        1 ≤ s.journal.reserved → s.deny.localOrder ≠ [] ∨ s.deny.entries.length < 8192 →
        ∃ u, exec (.present e i) s = .next u
          ∧ Unchanged [.au, .ports, .deny, .journal, .station, .sightings, .aisle, .drive, .emergency, .busy] s u
          ∧ u.ctx e = .idle ∧ u.ctx e.other = .idle ∧ u.aisle.waiting = { a := false, b := false }
          ∧ (u.port e).unflag
              = { (s.port e).produce { response := .decision (.refused .cloneSuspect none), late := false } with
                  request := none }.unflag
          ∧ (u.port e.other).unflag = (s.port e.other).posted (.refused .denied none)
          ∧ u.sightings = restoreSighting s.sightings x.card x.previous
          ∧ u.journal.reserved = s.journal.reserved - 1
          ∧ u.journal.queue = s.journal.queue ++ [
              { sequence := s.journal.lastSeq + 1, time := s.time.counter
                data := { kind := .clone, atEnd := some e, card := some i.card, cardSeq := some i.sequence
                          reference := some n } },
              { sequence := s.journal.lastSeq + 2, time := s.time.counter
                data := { kind := .denied, atEnd := some e.other, card := some i.card, reference := some 1 } }])

/-- R12, R13, R15, R94: a PRESENT that screens to a write grant in an IDLE aisle, or in one that serves its own end's
direction, SERVING or VIOLATION, with fewer than 3 credits and no wait of equal or higher priority at the other end, is
DECIDED at once, holding both reservations; with the journal unable to reserve it is refused JOURNAL_FULL, whatever the
aisle would have answered. The context also keeps the presented balance and the entry station of the record, which the
manual's list of its fields leaves out (assumption log 26). -/
def Obligations.WriteGrantDecidedAtOnce : Prop :=
  ∀ (e : End) (i : CardImage) (t : Tariff) (charge : Nat) (flags : Flags) (new : CardImage) (s : State),
    ScreensTo s e i t charge flags new →
    (s.journal.canReserve = false → ∃ u, exec (.present e i) s = .next u ∧ Unchanged [.au, .ports, .busy] s u
      ∧ u.au = { s.au with lateCard := s.au.lateCard.set e none }
      ∧ PortAnswers e (.decision (.refused .outOfService (some .journalFull))) s u)
    ∧ (s.journal.canReserve = true → ReservesAtOnce e s → ∃ u, exec (.present e i) s = .next u
      ∧ Unchanged [.au, .ports, .sightings, .aisle, .drive, .emergency, .journal, .busy] s u
      ∧ u.ctx e = .decided (GrantTxn s e i t charge flags new) s.params.commitDeadline
      ∧ u.ctx e.other = s.ctx e.other ∧ u.au.lateCard = s.au.lateCard.set e none
      ∧ ServesOn s u ∧ u.aisle.closeDelay = none ∧ u.aisle.reservation = some e ∧ u.aisle.owned = some (endDir e)
      ∧ u.aisle.lastServed = e ∧ u.queued = s.queued ∧ u.aisle.waiting = s.aisle.waiting
      ∧ u.journal = { s.journal with reserved := s.journal.reserved + 1 }
      ∧ u.sightings = recordSighting s.sightings
          { card := i.card, kind := s.role e, fromEnd := e, outcome := .decided e, oldSeq := i.sequence,
            newSeq := i.sequence + 1, balance := new.balance, time := s.time.counter }
      ∧ PortAnswers e (.decision (.granted (GrantTxn s e i t charge flags new).kind charge
          { flags with listUnverified := decide (s.deny.state ≠ .complete) }
          (GrantTxn s e i t charge flags new).image)) s u)

/-- R12, R13, R94, R96: a PRESENT that screens to a write grant in a SERVING or VIOLATION aisle that serves the other
direction or none, holds 3 credits, or has a wait of equal or higher priority at the other end, waits in its slot, or
with a wait deadline of 0 is refused AISLE_BUSY; with the journal unable to reserve it is refused JOURNAL_FULL. The waiting
context keeps what a decided one does (assumption log 26). -/
def Obligations.WriteGrantWaits : Prop :=
  ∀ (e : End) (i : CardImage) (t : Tariff) (charge : Nat) (flags : Flags) (new : CardImage) (s : State),
    ScreensTo s e i t charge flags new → MustWait e s →
    ∃ u, exec (.present e i) s = .next u
      ∧ u.ctx e.other = s.ctx e.other ∧ u.au.lateCard = s.au.lateCard.set e none
      ∧ (s.journal.canReserve = true → s.params.waitDeadline ≠ 0 →
          Unchanged [.au, .ports, .sightings, .aisle, .journal, .busy] s u
          ∧ u.ctx e = .waitAisle (GrantTxn s e i t charge flags new) s.params.waitDeadline
          ∧ u.aisle = { s.aisle with waiting := s.aisle.waiting.set e true }
          ∧ u.journal = { s.journal with reserved := s.journal.reserved + 1 }
          ∧ u.sightings = recordSighting s.sightings
              { card := i.card, kind := s.role e, fromEnd := e, outcome := .decided e, oldSeq := i.sequence,
                newSeq := i.sequence + 1, balance := new.balance, time := s.time.counter }
          ∧ PortAnswers e .pending s u)
      ∧ (s.journal.canReserve = true → s.params.waitDeadline = 0 →
          Unchanged [.au, .ports, .busy] s u ∧ u.ctx e = .idle
            ∧ PortAnswers e (.decision (.refused .aisleBusy none)) s u)
      ∧ (s.journal.canReserve = false →
          Unchanged [.au, .ports, .busy] s u ∧ u.ctx e = .idle
            ∧ PortAnswers e (.decision (.refused .outOfService (some .journalFull))) s u)

/-- R16, R66, R68: an UNUSED card presented again within the re-tap window is granted a RETAP, one whose transaction was
left unconfirmed a RECOVERY that refers to its record; either way, in an IDLE aisle or in one that R94 reserves at once,
the credit joins the queue in the same event, and the flaps are to open for the first one (R108) and always in
NORMALLY_OPEN mode (R109). With the journal unable to reserve the request is refused JOURNAL_FULL (R12). -/
def Obligations.NoWriteGrantCompletesAtOnce : Prop :=
  ∀ (e : End) (i : CardImage) (t : Tariff) (kind : GrantKind) (record : RecordKind) (ref : Option Nat) (s : State),
    s.running = true → s.serviceRefusal = none →
    s.tariff.current = some t → s.ctx e = .idle → t.accepts i = true → i.sequence ≠ 65535 →
    s.deny.find i.card = none →
    (judge (s.lookupSighting i.card) (s.presentation e t i) = .retap ∧ kind = .retap ∧ record = .retap ∧ ref = none
      ∨ ∃ n, judge (s.lookupSighting i.card) (s.presentation e t i) = .recovery n ∧ kind = .recovery
        ∧ record = .recovery ∧ ref = some n) →
    (s.journal.canReserve = false → ∃ u, exec (.present e i) s = .next u ∧ Unchanged [.au, .ports, .busy] s u
      ∧ u.au = { s.au with lateCard := s.au.lateCard.set e none }
      ∧ PortAnswers e (.decision (.refused .outOfService (some .journalFull))) s u)
    ∧ (s.journal.canReserve = true → CanComplete s → ReservesAtOnce e s → s.aisle.waiting.get e = false →
      ∃ u, exec (.present e i) s = .next u
      ∧ Unchanged [.au, .ports, .station, .sightings, .aisle, .drive, .emergency, .journal, .busy] s u
      ∧ u.au = { s.au with lateCard := s.au.lateCard.set e none }
      ∧ ServesOn s u ∧ u.aisle.closeDelay = none
      ∧ (s.aisle.state ≠ .violation → s.aisle.credits = [] ∨ s.params.aisleMode = .normallyOpen → Opens s u)
      ∧ u.aisle.reservation = none ∧ u.aisle.owned = some (endDir e)
      ∧ u.queued = s.queued ++ [(e, i.card, kind)]
      ∧ Appended
          { kind := record, atEnd := some e, card := some i.card, balance := some i.balance
            cardSeq := some i.sequence, flags := { listUnverified := decide (s.deny.state ≠ .complete) }
            reference := ref } 0 s u
      ∧ u.sightings = settleSighting s.params.retention s.time.counter i.card .pending (recordSighting s.sightings
          { card := i.card, kind := s.role e, fromEnd := e, outcome := .decided e, oldSeq := i.sequence,
            newSeq := i.sequence, balance := i.balance, time := s.time.counter })
      ∧ PortAnswers e (.decision (.granted kind 0 { listUnverified := decide (s.deny.state ≠ .complete) } none)) s u)

/-- R19, R22, R99, R108, R109, R121: the COMMIT of a DECIDED context records the money, with the entry station the context
kept from the PRESENT (assumption log 26). Not HELD, in SERVING or VIOLATION, it makes the credit and the sighting entry is
PENDING; in SERVING the flaps are to open for the first credit, and always in NORMALLY_OPEN mode. HELD, or in EMERGENCY, it
makes none and the entry is USED; in OUT_OF_SERVICE it makes none, the entry is UNUSED, and an ABANDONED record follows when there is room, with the context's flags (assumption log 44). R149, R150: where records were
lost, a DROPPED record comes first when there is room for it; else the record goes into its reservation alone. -/
def Obligations.CommitCompletesTheGrant : Prop :=
  ∀ (e : End) (x : Txn) (image : CardImage) (d : Nat) (s : State), s.running = true → s.ctx e = .decided x d →
    x.image = some image → s.journal.lastSeq < 4294967295 →
    (x.flags.held = false → (s.aisle.state = .serving ∨ s.aisle.state = .violation) →
      s.aisle.owned = some (endDir e) → s.aisle.waiting.get e = false →
      ∃ u, exec (.commit e x.card) s = .next u
        ∧ Unchanged [.au, .ports, .station, .sightings, .aisle, .drive, .emergency, .journal, .busy] s u
        ∧ u.au = { s.au with ctx := s.au.ctx.set e .idle }
        ∧ (s.aisle.state = .serving → u.aisle.state = .serving)
        ∧ (s.aisle.state = .serving → s.aisle.credits = [] ∨ s.params.aisleMode = .normallyOpen → Opens s u)
        ∧ u.aisle.closeDelay = none ∧ u.aisle.reservation = none ∧ u.aisle.owned = some (endDir e)
        ∧ u.queued = s.queued ++ [(e, x.card, x.kind)]
        ∧ ReservedAppend (CommitRecord e x image) s u
        ∧ u.sightings = settleSighting s.params.retention s.time.counter x.card .pending s.sightings
        ∧ PortAnswers e .commitDone s u)
    ∧ ((x.flags.held = true ∨ s.aisle.state = .emergency) → NoWaits s →
      ∃ u, exec (.commit e x.card) s = .next u
        ∧ Unchanged [.au, .ports, .station, .sightings, .aisle, .drive, .emergency, .journal, .busy] s u
        ∧ u.au = { s.au with ctx := s.au.ctx.set e .idle }
        ∧ u.aisle.reservation = none ∧ u.queued = s.queued
        ∧ ReservedAppend (CommitRecord e x image) s u
        ∧ u.sightings = settleSighting s.params.retention s.time.counter x.card .used s.sightings
        ∧ PortAnswers e .commitDone s u)
    ∧ (x.flags.held = false → s.aisle.state = .outOfService → NoWaits s →
      ∃ u, exec (.commit e x.card) s = .next u
        ∧ Unchanged [.au, .ports, .station, .sightings, .aisle, .drive, .emergency, .journal, .busy] s u
        ∧ u.au = { s.au with ctx := s.au.ctx.set e .idle }
        ∧ u.aisle.reservation = none ∧ u.queued = s.queued
        ∧ (s.journal.dropped = 0 → s.journal.queue ++ [
            { sequence := s.journal.lastSeq + 1, time := s.time.counter, data := CommitRecord e x image }]
          <+: u.journal.queue)
        ∧ (0 < s.journal.dropped → HasRoom 1 s.journal → 1 ≤ s.journal.reserved → s.journal.queue ++ [
            { sequence := s.journal.lastSeq + 1, time := s.time.counter
              data := { kind := .dropped, reference := some s.journal.dropped } },
            { sequence := s.journal.lastSeq + 2, time := s.time.counter, data := CommitRecord e x image }]
          <+: u.journal.queue)
        ∧ (0 < s.journal.dropped → ¬HasRoom 1 s.journal →
          Appended (CommitRecord e x image) 1 s { u with journal := { u.journal with dropped := s.journal.dropped } }
            ∧ u.journal.dropped = min 65535 (s.journal.dropped + 1))
        ∧ (CanAppend s → 1 ≤ s.journal.reserved → u.journal.queue = s.journal.queue ++ [
            { sequence := s.journal.lastSeq + 1, time := s.time.counter, data := CommitRecord e x image },
            { sequence := s.journal.lastSeq + 2, time := s.time.counter
              data := { kind := .abandoned, atEnd := some e, flags := x.flags, card := some x.card
                        reference := some x.kind.code } }])
        ∧ u.sightings = settleSighting s.params.retention s.time.counter x.card .unused s.sightings
        ∧ PortAnswers e .commitDone s u)

/-- R20: an ABORT with the context's card gives the transaction up without a trace: the reservations go and the saved
sighting entry comes back. -/
def Obligations.AbortRestores : Prop :=
  ∀ (e : End) (x : Txn) (d : Nat) (s : State), s.running = true →
    (s.ctx e = .decided x d ∧ s.aisle.waiting.get e = false ∨ s.ctx e = .waitAisle x d) →
    s.aisle.waiting.get e.other = false →
    ∃ u, exec (.abort e x.card) s = .next u
      ∧ Unchanged [.au, .ports, .sightings, .aisle, .drive, .emergency, .journal, .busy] s u
      ∧ u.au = { s.au with ctx := s.au.ctx.set e .idle }
      ∧ u.aisle.waiting = { a := false, b := false } ∧ u.queued = s.queued
      ∧ u.aisle.reservation = (if (s.ctx e).tag = .decided then none else s.aisle.reservation)
      ∧ u.journal = { s.journal with reserved := s.journal.reserved - 1 }
      ∧ u.sightings = restoreSighting s.sightings x.card x.previous
      ∧ PortAnswers e .abortDone s u

/-- R177, 12.7: STATUS reports and clears the port's three flags; EVENTS_ENABLE sets both enables from bits 0 and 1. -/
def Obligations.PortAnswersItself : Prop :=
  ∀ (e : End) (b : Byte) (s : State), s.running = true →
    exec (.status e) s = .next ((s.setPort e { s.port e with
        decisionReady := false, serviceChanged := false, overrun := false }).respond e (.statusReport
          { context := (s.ctx e).tag, aisle := s.aisle.state, owned := s.aisle.owned, credits := s.aisle.credits.length
            lamps := s.drive.lamps.get e, summary := s.summary, decisionReady := (s.port e).decisionReady
            serviceChanged := (s.port e).serviceChanged, overrun := (s.port e).overrun })).flashKick
      ∧ exec (.eventsEnable e b) s = .next ((s.setPort e { s.port e with
          enableDecision := b.getLsbD 0, enableService := b.getLsbD 1 }).respond e
            (.enablesSet (b.getLsbD 0) (b.getLsbD 1))).flashKick

/-- R18, R21: the commit deadline resolves a DECIDED context as unconfirmed: recorded, its entry UNCONFIRMED with the
record's sequence, its reservation released, its card the late card. The wait deadline ends a wait in a late AISLE_BUSY
refusal; the saved sighting entry comes back and nothing is recorded. -/
def Obligations.ContextDeadlinesEnd : Prop :=
  (∀ (e : End) (x : Txn) (image : CardImage) (d : Nat) (s : State), s.running = true → s.ctx e = .decided x d →
      x.image = some image → NoWaits s → CanComplete s →
      ∃ u, exec (.commitDeadline e) s = .next u
        ∧ Unchanged [.au, .ports, .station, .sightings, .aisle, .drive, .emergency, .journal, .busy] s u
        ∧ u.ctx e = .idle ∧ u.ctx e.other = s.ctx e.other
        ∧ u.au.lateCard = s.au.lateCard.set e (some x.card)
        ∧ u.aisle.reservation = none ∧ u.queued = s.queued
        ∧ Appended
            { kind := .unconfirmed, atEnd := some e, flags := x.flags, card := some x.card, amount := some x.charge,
              balance := some image.balance, cardSeq := some (x.presSeq + 1), reference := some x.kind.code } 1 s u
        ∧ u.sightings = settleSighting s.params.retention s.time.counter x.card
            (.unconfirmed (s.journal.lastSeq + 1)) s.sightings
        ∧ PortsKept s u)
    ∧ ∀ (e : End) (x : Txn) (d : Nat) (s : State), s.running = true → s.ctx e = .waitAisle x d →
        s.aisle.waiting.get e.other = false →
        ∃ u, exec (.waitDeadline e) s = .next u
          ∧ Unchanged [.au, .ports, .sightings, .aisle, .drive, .emergency, .journal, .busy] s u
          ∧ u.au = { s.au with ctx := s.au.ctx.set e .idle }
          ∧ u.aisle.waiting = { a := false, b := false } ∧ u.queued = s.queued
          ∧ u.aisle.reservation = s.aisle.reservation
          ∧ u.journal = { s.journal with reserved := s.journal.reserved - 1 }
          ∧ u.sightings = restoreSighting s.sightings x.card x.previous
          ∧ PortPosts e (.refused .aisleBusy none) s u

/-- R17, R95 to R97: a waiting request of the owning end is granted at the event that makes room for it: a credit
leaves, or the other end's slot empties. At a free point the waiting end is granted, of two the one of higher priority,
of equals the one not served last; the other waits on. A grant in SERVING leaves a command OPEN as it is; at a free point
in NORMALLY_CLOSED mode a write grant waits before closed flaps, and a no-write grant's credit opens them (R108). -/
def Obligations.WaitsAreGranted : Prop :=
  ∀ (e : End) (x : Txn) (d : Nat) (s : State), s.running = true → SlotsMatch s → s.ctx e = .waitAisle x d →
    CanComplete s → s.params.serviceMode = .inService → s.aisle.reservation = none →
    ((s.aisle.state = .serving ∨ s.aisle.state = .violation) → s.aisle.owned = some (endDir e) →
      (∀ c cs, s.aisle.credits = c :: cs → c.deadline ≠ none → cs ≠ [] → cs.length < 3 →
        (s.aisle.waiting.get e.other = false ∨ s.params.priority.get e.other < s.params.priority.get e) →
        ∃ u, exec .passageDeadline s = .next u ∧ WaitGranted e x (cs.map Credit.who) s u
          ∧ (s.aisle.state = .serving → s.drive.command = .toOpen → u.drive.command = .toOpen)
          ∧ u.ctx e.other = s.ctx e.other ∧ (u.port e.other).unflag = (s.port e.other).unflag)
      ∧ (∀ y k, s.ctx e.other = .waitAisle y k → s.aisle.credits ≠ [] → s.aisle.credits.length < 3 →
        ∃ u, exec (.waitDeadline e.other) s = .next u
          ∧ (s.aisle.state = .serving → s.drive.command = .toOpen → u.drive.command = .toOpen)
          ∧ WaitGranted e x s.queued
              { s with aisle := { s.aisle with waiting := s.aisle.waiting.set e.other false } } u
          ∧ u.ctx e.other = .idle ∧ (u.port e.other).unflag = (s.port e.other).posted (.refused .aisleBusy none)))
    ∧ (s.params.aisleMode = .normallyClosed → s.aisle.state = .serving → s.aisle.credits = [] →
      s.drive.flap = .closing → (∃ m, s.drive.motion = some m ∧ m.release = false) → s.drive.command = .toClose →
      s.drive.clearing = false →
      (s.aisle.waiting.get e.other = false ∨ s.params.priority.get e.other < s.params.priority.get e
        ∨ s.params.priority.get e.other = s.params.priority.get e ∧ s.aisle.lastServed = e.other) →
      ∃ u, exec (.flapLimitReached .closedLimit) s = .next u ∧ WaitGranted e x [] s u ∧ u.aisle.state = .serving
        ∧ (x.kind = .entry ∨ x.kind = .exit → u.drive.command = .toClose ∧ u.drive.flap = .closed)
        ∧ (x.kind = .retap ∨ x.kind = .recovery → Opens s u)
        ∧ u.ctx e.other = s.ctx e.other ∧ (u.port e.other).unflag = (s.port e.other).unflag)

/-- R18, R22, R98: every wait ends in a late refusal at a flap FAULT, at the start of an emergency and at a MODE_SET
OUT, each with its reason; an insert into the deny list ends the wait of its card alone, in DENIED, which is recorded
with empty flags (assumption log 44), its reservation released before the append (assumption log 24). -/
def Obligations.WaitsAreRefused : Prop :=
  ∀ s : State, SlotsMatch s → BufferMatches s →
    (s.running = true → (s.drive.flap = .opening ∨ s.drive.flap = .closing) → s.aisle.state ≠ .emergency →
      ∃ u, exec .motionTimeout s = .next u ∧ WaitsRefused .outOfService (some .fault) s u
        ∧ u.aisle.state = .outOfService)
    ∧ (s.running = true → s.emergency.filtered = false → s.emergency.stage = none →
      ∃ u, exec .emergAsserted s = .next u ∧ WaitsRefused .emergency none s u ∧ u.aisle.state = .emergency)
    ∧ (∀ form, PortFree s → (s.aisle.state = .serving ∨ s.aisle.state = .violation) →
      ∃ u, exec (.modeSet form 0) s = .next u ∧ WaitsRefused .outOfService (some .stationMode) s u
        ∧ u.params.serviceMode = .outOf)
    ∧ ∀ (e : End) (x : Txn) (d : Nat) (j : DenyJob) (i : DenyItem) (rest : List DenyItem), s.running = true →
      s.ctx e = .waitAisle x d → (s.ctx e.other).tag ≠ .waitAisle → s.deny.job = some j → j.adding = true →
      j.rest = i :: rest → i.card = x.card → i.card ≠ 0 → s.deny.find i.card = none → s.deny.entries.length < 8192 →
      CanAppend s → 1 ≤ s.journal.reserved →
      ∃ u, exec .denyEntryApply s = .next u ∧ u.ctx e = .idle ∧ u.aisle.waiting = { a := false, b := false }
        ∧ PortPosts e (.refused .denied none) s u
        ∧ u.sightings = restoreSighting s.sightings x.card x.previous
        ∧ Appended { kind := .denied, atEnd := some e, card := some x.card, reference := some i.reason } 1 s u

/-! ## Fares (chapter 3) -/

/-- R49: the fare is the multiple of the step nearest the scaled value, half-way up, and every number on the way fits 32
bits. -/
def Obligations.FareIsRoundedHalfUp : Prop :=
  (∀ base b c S : Nat, base ≤ 65535 → b ≤ 250 → c ≤ 100 → S ∈ [1, 2, 5, 10, 20, 50, 100] →
    scaledFare base b c S = S * ((base * b * (100 - c) + 5000 * S) / (10000 * S))
      ∧ S ∣ scaledFare base b c S
      ∧ 10000 * scaledFare base b c S ≤ base * b * (100 - c) + 5000 * S
      ∧ base * b * (100 - c) < 10000 * scaledFare base b c S + 5000 * S
      ∧ base * b * (100 - c) ≤ 1638375000 ∧ base * b * (100 - c) + 5000 * S ≤ 1638875000
      ∧ base * b * (100 - c) + 5000 * S < 2 ^ 32 ∧ 10000 * S ≤ 1000000
      ∧ scaledFare base b c S ≤ scaledFare 65535 250 0 S
      ∧ scaledFare 65535 250 0 S = S * ((1638375000 + 5000 * S) / (10000 * S)) ∧ 65535 < scaledFare 65535 250 0 S)
    ∧ scaledFare 65535 250 0 1 = 163838 ∧ scaledFare 65535 250 0 100 = 163800
    ∧ ∀ base b S : Nat, 0 < S → scaledFare base b 100 S = 0

/-- R44 to R58. The fare of a journey: its duration and TIME_SKEW, the same-station fee, the base fare with
UNKNOWN_ORIGIN, the band of the entry day, scaling and rounding, the overstay surcharge and AMNESTY. What exit processing
answers: NO_ENTRY_RECORD, the free-travel exit, the charge under the daily cap, INSUFFICIENT and OVERDRAFT. What an exit
image holds: a balance never below the class's overdraft limit, nor below a negative presented one, the day and its
spend, and the fields every exit writes. What entry processing answers: the expiry day, the free-travel rule, the
PASSBACK and the fee of a card still IN, the minimum balance, and the entry image. -/
def Obligations.CardImagesAreSound : Prop :=
  (∀ (i : FareInput) (charge : Nat) (flags : Flags) (new : CardImage), exitFare i = .grant charge flags new →
      i.image.state ≠ 0 ∧ charge ≤ 65535
        ∧ new.balance = i.image.balance - (charge : Int) ∧ -(i.row.overdraft : Int) ≤ new.balance
        ∧ (i.image.balance < 0 → i.row.freeTravel = true ∧ new.balance = i.image.balance)
        ∧ (flags.overdraft = true ↔ 0 ≤ i.image.balance ∧ new.balance < 0)
        ∧ new.state = 0 ∧ new.sequence = i.image.sequence + 1 ∧ new.entryStation = 255 ∧ new.entryAisle = 0
        ∧ new.entryTime = i.image.entryTime ∧ new.card = i.image.card ∧ new.cls = i.image.cls
        ∧ new.expiryDay = i.image.expiryDay
        ∧ (i.row.freeTravel = true →
          charge = 0 ∧ new.dayNumber = i.image.dayNumber ∧ new.daySpend = i.image.daySpend)
        ∧ (∀ spent fare : Nat, i.row.freeTravel = false →
          spent = (if (i.image.dayNumber : Int) = i.today then i.image.daySpend else 0) →
          fare = min (journeyFare i).1 65535 →
          (i.row.cap = 0 → charge = fare) ∧ (0 < i.row.cap → spent < i.row.cap → charge = min fare (i.row.cap - spent))
            ∧ (0 < i.row.cap → i.row.cap ≤ spent → charge = 0)
            ∧ (0 ≤ i.today → (new.dayNumber : Int) = i.today) ∧ new.daySpend = min 65535 (spent + charge)
            ∧ (0 < i.row.cap → new.daySpend ≤ max i.row.cap spent)))
    ∧ (∀ i : FareInput,
      (i.image.state = 0 → exitFare i = .refuse .noEntryRecord)
      ∧ (i.image.state ≠ 0 → i.row.freeTravel = true →
        (i.image.balance < -(i.row.overdraft : Int) → exitFare i = .refuse .insufficient)
        ∧ (-(i.row.overdraft : Int) ≤ i.image.balance → exitFare i = .grant 0 {} { i.image with
            state := 0, sequence := i.image.sequence + 1, entryStation := 255, entryAisle := 0 }))
      ∧ (i.image.state ≠ 0 → i.row.freeTravel = false → ∀ (spent fare charge : Nat) (left : Int),
        spent = (if (i.image.dayNumber : Int) = i.today then i.image.daySpend else 0) →
        fare = min (journeyFare i).1 65535 →
        charge = (if i.row.cap = 0 then fare else if spent < i.row.cap then min fare (i.row.cap - spent) else 0) →
        left = i.image.balance - (charge : Int) →
        (left < 0 → i.image.balance < 0 ∨ left < -(i.row.overdraft : Int) → exitFare i = .refuse .insufficient)
        ∧ (0 ≤ left ∨ 0 ≤ i.image.balance ∧ -(i.row.overdraft : Int) ≤ left →
          ∃ new, exitFare i = .grant charge { (journeyFare i).2 with overdraft := decide (left < 0) } new)))
    ∧ (∀ (i : FareInput) (d : Nat) (skew pardoned : Bool),
      (d : Int) = max 0 ((i.now / 60 : Nat) - (i.image.entryTime : Int)) →
      (skew = true ↔ i.now / 60 + i.tariff.skewTolerance < i.image.entryTime) →
      (pardoned = true ↔ ∃ w ∈ i.windows, (w.station = i.image.entryStation ∨ w.station = 255)
        ∧ w.fromMinute ≤ i.image.entryTime ∧ i.image.entryTime ≤ w.toMinute) →
      (i.image.entryStation = i.station →
        (d ≤ i.tariff.grace → journeyFare i = (0, { timeSkew := skew, sameStation := true }))
        ∧ (i.tariff.grace < d →
          journeyFare i = (i.tariff.sameStationFee, { timeSkew := skew, sameStation := true })))
      ∧ (i.image.entryStation ≠ i.station → ∀ (base fare : Nat) (unknown : Bool) (day : Int) (m : Nat) (b : Band),
        BaseIs i base unknown → BandIs i.tariff i.image.entryTime day m b →
        fare = scaledFare base b.percent i.row.discount i.tariff.step →
        (d ≤ i.tariff.maxJourney → journeyFare i = (fare, { timeSkew := skew, unknownOrigin := unknown }))
        ∧ (i.tariff.maxJourney < d → pardoned = true →
          journeyFare i = (fare, { timeSkew := skew, unknownOrigin := unknown, amnesty := true }))
        ∧ (i.tariff.maxJourney < d → pardoned = false →
          journeyFare i = (fare + i.tariff.overstay, { timeSkew := skew, unknownOrigin := unknown }))))
    ∧ ∀ (i : FareInput) (inHere pardoned : Prop) (entered : Nat → CardImage),
      (inHere ↔ i.image.state = 1 ∧ i.image.entryStation = i.station
        ∧ i.now / 60 - i.image.entryTime ≤ i.tariff.retapWindow) →
      (pardoned ↔ ∃ w ∈ i.windows, (w.station = i.image.entryStation ∨ w.station = 255)
        ∧ w.fromMinute ≤ i.image.entryTime ∧ i.image.entryTime ≤ w.toMinute) →
      (∀ fee, entered fee = { i.image with
        state := 1, balance := i.image.balance - (fee : Int), sequence := i.image.sequence + 1
        entryStation := i.station, entryTime := i.now / 60, entryAisle := i.aisle }) →
      ((i.image.expiryDay : Int) < i.today → entryFare i = .refuse .cardExpired)
      ∧ (i.today ≤ (i.image.expiryDay : Int) → i.row.freeTravel = true →
        (i.image.balance < -(i.row.overdraft : Int) → entryFare i = .refuse .lowBalance)
        ∧ (-(i.row.overdraft : Int) ≤ i.image.balance → entryFare i = .grant 0 {} (entered 0)))
      ∧ (i.today ≤ (i.image.expiryDay : Int) → i.row.freeTravel = false →
        (inHere → entryFare i = .refuse .passback)
        ∧ (¬inHere → ∀ (fee : Nat) (flags : Flags),
          (i.image.state ≠ 1 ∧ fee = 0 ∧ flags = {}
            ∨ i.image.state = 1 ∧ pardoned ∧ fee = 0 ∧ flags = { incompleteFee := true, amnesty := true }
            ∨ i.image.state = 1 ∧ ¬pardoned ∧ fee = i.tariff.incompleteFee ∧ flags = { incompleteFee := true }) →
          (i.image.balance - (fee : Int) < (i.row.minEntry : Int) → entryFare i = .refuse .lowBalance)
          ∧ ((i.row.minEntry : Int) ≤ i.image.balance - (fee : Int) → entryFare i = .grant fee flags (entered fee))))

/-! ## The aisle (chapter 6) and the passage monitor (7.1) -/

/-- R115, R116, R118: a sample that changes a zone leaves the zones it found; the entry side is recorded when the flap
zone becomes occupied, by R116's table, stays while it is occupied and goes when it clears, with the loiter timer. R106,
R108, R109: the close delay stops when the flap zone becomes occupied, and starts when it clears in a vacant aisle; the
reopen delay stops at each zone change, and starts whenever that leaves all zones clear; and a vacant NORMALLY_OPEN aisle
is IDLE, or with the service mode OUT OUT_OF_SERVICE, when all zones clear. -/
def Obligations.ZoneChangeIsRecorded : Prop :=
  ∀ (z : Zones) (s : State), s.running = true →
    ∃ u, exec (.zoneChange z) s = .next u ∧ u.monitor.zones = z
      ∧ (s.monitor.zones.zF = false → z.zF = true →
          u.monitor.loiter = some 0
          ∧ (s.monitor.seen z = (true, false) → u.monitor.entrySide = some .a)
          ∧ (s.monitor.seen z = (false, true) → u.monitor.entrySide = some .b)
          ∧ (s.monitor.seen z = (true, true) → u.monitor.entrySide = some .unknown)
          ∧ (s.monitor.seen z = (false, false) → u.monitor.entrySide = some .unknown))
      ∧ (s.monitor.zones.zF = true → z.zF = true →
          u.monitor.entrySide = s.monitor.entrySide ∧ u.monitor.loiter = s.monitor.loiter)
      ∧ (s.monitor.zones.zF = true → z.zF = false → u.monitor.entrySide = none ∧ u.monitor.loiter = none)
      ∧ (z ≠ s.monitor.zones →
        (z.zF = true → u.aisle.closeDelay = none)
        ∧ (z ≠ { zA := false, zF := false, zB := false } → u.aisle.reopenDelay = none)
        ∧ (z = { zA := false, zF := false, zB := false } → s.aisle.state = .violation → s.params.reopenDelay ≠ 0 →
            u.aisle.state = .violation ∧ u.aisle.reopenDelay = some s.params.reopenDelay)
        ∧ (NoCrossing s.monitor z → Vacant s →
          (z.zF = false → CloseDelayAwaits s →
            u.aisle.closeDelay = some s.params.closeDelay ∧ u.aisle.state = s.aisle.state)
          ∧ (z = { zA := false, zF := false, zB := false } → s.params.aisleMode = .normallyOpen →
            s.aisle.state = .serving → OpenAisleVacated s u)))

/-- R102 to R105, R117, R131: a crossing in the owned direction uses the head credit, whose sighting entry becomes USED;
one with no credit behind it is a TAILGATE, one against the owned direction an INTRUSION: the aisle is in VIOLATION, the
flaps are to close, the buzzer sounds, the journal has it, and no credit is used. In EMERGENCY, and in OUT_OF_SERVICE
without a credit in its direction, it is taken without effect; but a clearing motion that waited for the flap zone begins,
and with the closed limit active the fault clears in the same event (R112, R119, R126). The use of the last credit of an aisle without a
reservation starts the close delay (R108), or in NORMALLY_OPEN mode with all zones clear leaves the aisle IDLE (R109). -/
def Obligations.CrossingsAreMatched : Prop :=
  ∀ (z : Zones) (d : Dir) (s : State), s.running = true → CrossesAs s.monitor z d → NoWaits s →
    (∀ c cs, (s.aisle.state = .serving ∨ s.aisle.state = .violation ∨ s.aisle.state = .outOfService) →
      s.aisle.owned = some d → s.aisle.credits = c :: cs →
      ∃ u, exec (.zoneChange z) s = .next u
        ∧ Unchanged [.monitor, .sightings, .aisle, .drive, .emergency, .ports, .busy] s u
        ∧ u.queued = cs.map Credit.who ∧ u.aisle.reservation = s.aisle.reservation
        ∧ u.sightings = settleSighting s.params.retention s.time.counter c.card .used s.sightings
        ∧ (cs = [] → s.aisle.reservation = none →
          (CloseDelayAwaits s → u.aisle.closeDelay = some s.params.closeDelay)
          ∧ (s.params.aisleMode = .normallyOpen → s.aisle.state = .serving →
            z = { zA := false, zF := false, zB := false } → OpenAisleVacated s u))
        ∧ PortsKept s u)
    ∧ (s.aisle.state = .emergency
        ∨ s.aisle.state = .outOfService ∧ (s.aisle.credits = [] ∨ s.aisle.owned ≠ some d)
          ∧ (s.drive.clearing = false ∨ s.drive.closedLimit.accepted = false) →
      ∃ u, exec (.zoneChange z) s = .next u ∧ Unchanged [.monitor, .aisle, .drive, .emergency, .ports, .busy] s u
        ∧ u.aisle.state = s.aisle.state ∧ u.aisle.owned = s.aisle.owned ∧ u.queued = s.queued
        ∧ u.aisle.reservation = s.aisle.reservation ∧ u.drive.command = s.drive.command
        ∧ u.drive.buzzer = s.drive.buzzer ∧ u.emergency.amnesty = s.emergency.amnesty ∧ PortsKept s u)
    ∧ (s.aisle.state = .outOfService → s.aisle.credits = [] → s.drive.flap = .fault → s.drive.clearing = true →
      s.drive.closeHold = false → s.drive.closedLimit.accepted = true →
      ∃ u, exec (.zoneChange z) s = .next u ∧ Unchanged [.monitor, .aisle, .drive, .emergency, .ports, .busy] s u
        ∧ u.drive.clearing = false ∧ u.aisle.credits = [] ∧ u.aisle.reservation = s.aisle.reservation
        ∧ u.aisle.state = (if s.aisle.reservation ≠ none then .serving
            else if s.params.serviceMode = .inService then .idle else .outOfService)
        ∧ u.drive.buzzer = s.drive.buzzer ∧ u.emergency.amnesty = s.emergency.amnesty ∧ PortsKept s u)
    ∧ ∀ kind : RecordKind, CanAppend s → s.params.reopenDelay ≠ 0 →
      (kind = .tailgate ∧ (s.aisle.state = .idle
          ∨ s.aisle.state = .violation ∧ s.aisle.owned = none
          ∨ (s.aisle.state = .serving ∨ s.aisle.state = .violation) ∧ s.aisle.owned = some d ∧ s.aisle.credits = [])
        ∨ kind = .intrusion ∧ (s.aisle.state = .serving ∨ s.aisle.state = .violation)
          ∧ ∃ o, s.aisle.owned = some o ∧ o ≠ d) →
      ∃ u, exec (.zoneChange z) s = .next u
        ∧ Unchanged [.monitor, .aisle, .drive, .emergency, .journal, .station, .ports, .busy] s u
        ∧ u.aisle.state = .violation ∧ u.aisle.owned = s.aisle.owned ∧ u.queued = s.queued
        ∧ u.aisle.reservation = s.aisle.reservation
        ∧ u.drive.command = .toClose ∧ u.drive.buzzer = some s.params.buzzerDuration
        ∧ Appended { kind := kind, atEnd := some d.source } 0 s u
        ∧ PortsKept s u

/-- R101, R106 to R108, R110: the head credit's deadline removes it with an ABANDONED record, of empty flags as its context is
long IDLE (assumption log 44), and an UNUSED entry; the loiter timer gives the attention and a LOITER record, and in
EMERGENCY has no effect but its own end. Either record is dropped and counted for want of room, and follows a DROPPED
record where records were lost (R149, R150). The close delay of a vacant NORMALLY_CLOSED aisle closes the flaps, and an IDLE
aisle stays IDLE; the reopen
delay ends a violation once the flaps are closed, or at once in NORMALLY_OPEN mode: back to SERVING with anything
outstanding, else to IDLE, or OUT_OF_SERVICE with the service mode OUT, with the flap command of R106's table. -/
def Obligations.ArbiterTimersEnd : Prop :=
  ∀ s : State, s.running = true →
    (∀ c cs, s.aisle.credits = c :: cs → c.deadline ≠ none → NoWaits s →
      ∃ u, exec .passageDeadline s = .next u
        ∧ Unchanged [.sightings, .aisle, .drive, .emergency, .journal, .station, .ports, .busy] s u
        ∧ u.queued = cs.map Credit.who ∧ u.aisle.reservation = s.aisle.reservation
        ∧ u.sightings = settleSighting s.params.retention s.time.counter c.card .unused s.sightings
        ∧ UnreservedAppend
            { kind := .abandoned, atEnd := some c.fromEnd, card := some c.card, reference := some c.kind.code } s u
        ∧ (cs = [] → s.aisle.reservation = none →
          (CloseDelayAwaits s → s.monitor.zones.zF = false → u.aisle.closeDelay = some s.params.closeDelay)
          ∧ (s.params.aisleMode = .normallyOpen → s.aisle.state = .serving →
            s.monitor.zones = { zA := false, zF := false, zB := false } → OpenAisleVacated s u))
        ∧ PortsKept s u)
    ∧ (s.monitor.loiter ≠ none → s.aisle.state ≠ .emergency → NoWaits s →
      ∃ u, exec .loiter s = .next u
        ∧ Unchanged [.monitor, .aisle, .drive, .emergency, .journal, .station, .ports, .busy] s u
        ∧ u.monitor = { s.monitor with loiter := none } ∧ u.aisle.attention = true
        ∧ u.queued = s.queued ∧ u.aisle.reservation = s.aisle.reservation
        ∧ UnreservedAppend { kind := .loiter } s u ∧ PortsKept s u)
    ∧ (s.monitor.loiter ≠ none → s.aisle.state = .emergency →
      ∃ u, exec .loiter s = .next u ∧ Unchanged [.monitor, .busy] s u
        ∧ u.monitor = { s.monitor with loiter := none })
    ∧ (NoWaits s → s.params.aisleMode = .normallyClosed → Vacant s → s.aisle.closeDelay ≠ none →
      ∃ u, exec .closeDelayExpiry s = .next u ∧ Unchanged [.aisle, .drive, .emergency, .ports, .busy] s u
        ∧ u.drive.command = .toClose ∧ u.aisle.closeDelay = none ∧ Vacant u
        ∧ (s.aisle.state = .idle → u.aisle.state = .idle) ∧ PortsKept s u)
    ∧ (NoWaits s → s.aisle.state = .violation → s.aisle.reopenDelay ≠ none →
      (s.params.aisleMode = .normallyOpen ∨ s.drive.flap = .closed ∧ s.drive.command = .toClose) →
      ∃ u, exec .reopenDelayExpiry s = .next u ∧ Unchanged [.aisle, .drive, .emergency, .ports, .busy] s u
        ∧ u.queued = s.queued ∧ u.aisle.reservation = s.aisle.reservation ∧ u.aisle.reopenDelay = none
        ∧ (s.aisle.credits ≠ [] ∨ s.aisle.reservation ≠ none →
            u.aisle.state = .serving ∧ u.aisle.owned = s.aisle.owned
              ∧ (s.aisle.credits ≠ [] ∨ s.params.aisleMode = .normallyOpen → Opens s u)
              ∧ (s.aisle.credits = [] → s.params.aisleMode = .normallyClosed → u.drive.command = .toClose))
        ∧ (s.aisle.credits = [] → s.aisle.reservation = none →
            u.aisle.state = (if s.params.serviceMode = .inService then .idle else .outOfService)
              ∧ u.aisle.owned = none
              ∧ u.drive.command = (if s.params.serviceMode = .inService ∧ s.params.aisleMode = .normallyOpen then .toOpen
                else .toClose))
        ∧ PortsKept s u)

/-! ## The flap drive (chapter 7) -/

/-- R112, R119, R122, R126, R127, R138: an opening motion ends at the open limit, and the head credit's deadline starts;
a closing motion ends at the closed limit, and a vacant SERVING aisle is then IDLE; a clearing motion that ends there
clears the FAULT, and the aisle leaves OUT_OF_SERVICE as its reservation and the service mode say; a release motion that
ends at the open limit is RELEASED, and stage 3 is reached. The model's readings in it: the other limit's filter is left
alone (assumption log 18), and the flaps stay CLOSED where a cleared fault returns a NORMALLY_CLOSED aisle to SERVING
with a reservation and no credit (assumption log 17). -/
def Obligations.LimitsEndMotions : Prop :=
  ∀ (m : Motion) (s : State), s.running = true → s.drive.motion = some m →
    (∀ c cs, m.release = false → s.drive.flap = .opening → ServingCredit s → FollowsOpen s → s.aisle.credits = c :: cs →
      ∃ u, exec (.flapLimitReached .openLimit) s = .next u ∧ Unchanged [.drive, .aisle, .emergency, .ports, .busy] s u
        ∧ u.drive.flap = .opened ∧ u.drive.motion = none ∧ u.drive.retryCount = 0
        ∧ u.drive.openLimit.accepted = true ∧ u.drive.closedLimit = s.drive.closedLimit
        ∧ u.aisle.credits = { c with deadline := some (c.deadline.getD (1000 * s.params.passageTimeout)) } :: cs
        ∧ u.aisle.state = .serving ∧ u.aisle.reservation = s.aisle.reservation ∧ PortsKept s u)
    ∧ (m.release = false → s.drive.flap = .closing → s.drive.command = .toClose → s.params.aisleMode = .normallyClosed →
      NoWaits s → s.aisle.credits = [] →
      ∃ u, exec (.flapLimitReached .closedLimit) s = .next u ∧ Unchanged [.drive, .aisle, .emergency, .ports, .busy] s u
        ∧ u.drive.flap = .closed ∧ u.drive.motion = none ∧ u.drive.retryCount = 0 ∧ u.drive.clearing = false
        ∧ u.drive.closedLimit.accepted = true ∧ u.drive.openLimit = s.drive.openLimit
        ∧ u.aisle.credits = [] ∧ u.aisle.reservation = s.aisle.reservation ∧ PortsKept s u
        ∧ (s.drive.clearing = false → s.aisle.state = .serving → s.aisle.reservation = none →
          s.params.serviceMode = .inService → u.aisle.state = .idle ∧ u.aisle.owned = none)
        ∧ (s.drive.clearing = true → s.aisle.state = .outOfService →
          (s.aisle.reservation ≠ none → u.aisle.state = .serving ∧ u.aisle.owned = s.aisle.owned)
          ∧ (s.aisle.reservation = none →
            u.aisle.state = (if s.params.serviceMode = .inService then .idle else .outOfService)
              ∧ u.aisle.owned = none)))
    ∧ (∀ g, m.release = true → s.drive.flap = .opening → s.aisle.state = .emergency → s.emergency.stage = some g →
      ∃ u, exec (.flapLimitReached .openLimit) s = .next u ∧ Unchanged [.drive, .aisle, .emergency, .ports, .busy] s u
        ∧ u.drive.flap = .released ∧ u.drive.motion = none ∧ u.drive.retryCount = 0
        ∧ u.drive.openLimit.accepted = true ∧ u.emergency = { s.emergency with stage := some .released }
        ∧ u.aisle.state = .emergency ∧ u.queued = s.queued ∧ u.aisle.reservation = s.aisle.reservation
        ∧ PortsKept s u)

/-- R122, R127: a flap moved off the limit it rests at is driven back: to the closed limit once R120 allows, to the open
one at once, and by a release motion in RELEASED. -/
def Obligations.LostLimitIsDrivenBack : Prop :=
  ∀ s : State, s.running = true → s.drive.pause = none →
    (s.drive.flap = .closed → AtRest s → s.drive.clearing = false →
      ∃ u, exec (.flapLimitLost .closedLimit) s = .next u ∧ Unchanged [.drive, .aisle, .emergency, .ports, .busy] s u
        ∧ u.drive.closedLimit.accepted = false
        ∧ u.drive.flap
            = (if s.monitor.zones.zF = false ∧ s.drive.closeHold = false then .closing else .stopped)
        ∧ u.aisle.state = s.aisle.state ∧ Vacant u ∧ PortsKept s u)
    ∧ (s.drive.flap = .opened → ServingCredit s → FollowsOpen s →
      ∃ u, exec (.flapLimitLost .openLimit) s = .next u ∧ Unchanged [.drive, .aisle, .emergency, .ports, .busy] s u
        ∧ u.drive.openLimit.accepted = false ∧ u.drive.flap = .opening ∧ u.queued = s.queued ∧ PortsKept s u)
    ∧ (s.drive.flap = .released → s.aisle.state = .emergency →
      ∃ u, exec (.flapLimitLost .openLimit) s = .next u ∧ Unchanged [.drive, .aisle, .emergency, .ports, .busy] s u
        ∧ u.drive.openLimit.accepted = false ∧ u.drive.flap = .opening
        ∧ u.drive.motion.map Motion.release = some true ∧ u.aisle.state = .emergency ∧ u.queued = s.queued
        ∧ PortsKept s u)

/-- R74, R112, R119, R120, R123 to R125: a motion whose timeout runs out is a FAULT with its cause, and every credit goes,
its sighting entry UNUSED, with an ABANDONED record of empty flags (assumption log 44); an obstruction stops an
opening motion for a pause of 500 ms, and at the third stop is a FAULT; it reverses a closing motion, with the close
hold. -/
def Obligations.FailedMotionsStopOrFault : Prop :=
  ∀ s : State, s.running = true → NoWaits s →
    (s.drive.flap = .opening ∨ s.drive.flap = .closing →
      ∃ u, exec .motionTimeout s = .next u
        ∧ Unchanged [.drive, .aisle, .emergency, .station, .sightings, .journal, .ports, .busy] s u
        ∧ Faulted (if s.drive.flap = .opening then .openTimeout else .closeTimeout) s u
        ∧ u.drive.retryCount = s.drive.retryCount ∧ PortsKept s u)
    ∧ (∀ m, s.drive.motion = some m → m.release = false → s.params.threshold < 1023 →
      (s.drive.flap = .opening → s.drive.retryCount < 2 →
        ∃ u, exec .obstruction s = .next u ∧ Unchanged [.drive, .aisle, .emergency, .ports, .busy] s u
          ∧ u.drive.flap = .stopped ∧ u.drive.motion = none ∧ u.drive.pause = some 500
          ∧ u.drive.retryCount = s.drive.retryCount + 1 ∧ u.queued = s.queued ∧ PortsKept s u)
      ∧ (s.drive.flap = .opening → 2 ≤ s.drive.retryCount →
        ∃ u, exec .obstruction s = .next u
          ∧ Unchanged [.drive, .aisle, .emergency, .station, .sightings, .journal, .ports, .busy] s u
          ∧ Faulted .obstruction s u ∧ u.drive.retryCount = s.drive.retryCount + 1 ∧ PortsKept s u)
      ∧ (s.drive.flap = .closing → AtRest s → s.drive.openLimit.accepted = false →
        ∃ u, exec .obstruction s = .next u ∧ Unchanged [.drive, .aisle, .emergency, .ports, .busy] s u
          ∧ u.drive.flap = .opening ∧ u.drive.closeHold = true ∧ u.drive.retryCount = s.drive.retryCount
          ∧ u.drive.holdTimer = (if s.monitor.zones.zF then none else some s.params.closeDelay)
          ∧ u.aisle.state = s.aisle.state ∧ PortsKept s u))

/-- R119, R120, R124, R129, R131: the close hold ends and the flaps close; the retry pause ends in a new opening motion
with its own duty, timeout and blanking; a buzzer pulse ends; a blink generator changes phase. -/
def Obligations.DriveTimersEnd : Prop :=
  ∀ s : State, s.running = true →
    (s.drive.holdTimer ≠ none → AtRest s → s.drive.flap = .opened → s.monitor.zones.zF = false →
      s.drive.closedLimit.accepted = false → s.drive.clearing = false →
      ∃ u, exec .closeHoldExpiry s = .next u ∧ Unchanged [.drive, .aisle, .emergency, .ports, .busy] s u
        ∧ u.drive.closeHold = false ∧ u.drive.holdTimer = none ∧ u.drive.flap = .closing
        ∧ u.aisle.state = s.aisle.state ∧ PortsKept s u)
    ∧ (s.drive.pause ≠ none → s.drive.flap = .stopped → ServingCredit s → FollowsOpen s →
      s.drive.openLimit.accepted = false →
      ∃ u, exec .retryPauseEnd s = .next u ∧ Unchanged [.drive, .aisle, .emergency, .ports, .busy] s u
        ∧ u.drive.flap = .opening ∧ u.drive.pause = none ∧ u.drive.retryCount = s.drive.retryCount
        ∧ u.drive.motion = some
            { duty := if s.pins.therm then min s.params.normalDuty s.params.thermalDuty else s.params.normalDuty
              remaining := if s.pins.therm then 2 * s.params.motionTimeout else s.params.motionTimeout
              blanking := some s.params.blanking, release := false }
        ∧ u.queued = s.queued ∧ PortsKept s u)
    ∧ exec .buzzerPulseEnd s = .next (State.flashKick { s with drive := { s.drive with buzzer := none } })
    ∧ exec (.blinkPhaseChange .bg1) s = .next { s with drive := { s.drive with
        bg1 := { high := !s.drive.bg1.high
                 remaining := 10 * (if s.drive.bg1.high then s.params.bg1Low else s.params.bg1High) } } }
    ∧ exec (.blinkPhaseChange .bg2) s = .next { s with drive := { s.drive with
        bg2 := { high := !s.drive.bg2.high
                 remaining := 10 * (if s.drive.bg2.high then s.params.bg2Low else s.params.bg2High) } } }

/-! ## Time base and emergency (chapters 2 and 8) -/

/-- R114, R115, R123, R129, R133, R135, R170: one millisecond without a command, the model's own step of the part's clock
(assumption log 4). Every input is sampled, the settle counts count and the zones and EMERG follow them, a commit
deadline counts to its end, the blink generators run; where no input changes and no timer runs out, every timer counts
and nothing else happens. PFW asserted starts holdover, with assumption logs 5, 12, 30 and 38 as HoldoverBegun names
them; outside RUN only PFW and, but in HALT, the limits (R133, assumption log 20) and the blink generators (assumption log
28) go on, and a holdover with nothing left to flush stands (assumption log 12); without supply nothing does. -/
def Obligations.MillisecondPasses : Prop :=
  ∀ s : State, s.pending = [] →
    (s.store.supply = false → step s = .next s)
    ∧ (s.running = true → (s.store.pfw.raw = false ∨ s.store.pfw.prev = false ∨ s.store.pfw.accepted = true) →
      ∃ u, step s = .next u ∧ u.store.run = .run ∧ Sampled s.store.pfw u.store.pfw
        ∧ Sampled s.drive.openLimit u.drive.openLimit ∧ Sampled s.drive.closedLimit u.drive.closedLimit
        ∧ Sampled s.emergency.input u.emergency.input
        ∧ Settled 20 u.emergency.input.accepted s.emergency.filtered s.emergency.settle u.emergency.filtered
            u.emergency.settle
        ∧ Sampled s.monitor.beams.b1 u.monitor.beams.b1 ∧ Sampled s.monitor.beams.b2 u.monitor.beams.b2
        ∧ Sampled s.monitor.beams.b3 u.monitor.beams.b3 ∧ Sampled s.monitor.beams.b4 u.monitor.beams.b4
        ∧ Sampled s.monitor.beams.b5 u.monitor.beams.b5 ∧ Sampled s.monitor.beams.b6 u.monitor.beams.b6
        ∧ Settled s.params.settleCount (u.monitor.beams.b1.accepted || u.monitor.beams.b2.accepted)
            s.monitor.zones.zA s.monitor.settleA u.monitor.zones.zA u.monitor.settleA
        ∧ Settled s.params.settleCount (u.monitor.beams.b3.accepted || u.monitor.beams.b4.accepted)
            s.monitor.zones.zF s.monitor.settleF u.monitor.zones.zF u.monitor.settleF
        ∧ Settled s.params.settleCount (u.monitor.beams.b5.accepted || u.monitor.beams.b6.accepted)
            s.monitor.zones.zB s.monitor.settleB u.monitor.zones.zB u.monitor.settleB
        ∧ (∀ e x d, s.ctx e = .decided x d →
          (1 < d → u.ctx e = .decided x (d - 1))
            ∧ (d ≤ 1 → u.ctx e = .idle ∧ u.au.lateCard.get e = some x.card))
        ∧ u.drive.bg1 = (if 1 < s.drive.bg1.remaining then { s.drive.bg1 with remaining := s.drive.bg1.remaining - 1 }
            else { high := !s.drive.bg1.high
                   remaining := 10 * (if s.drive.bg1.high then s.params.bg1Low else s.params.bg1High) })
        ∧ u.drive.bg2 = (if 1 < s.drive.bg2.remaining then { s.drive.bg2 with remaining := s.drive.bg2.remaining - 1 }
            else { high := !s.drive.bg2.high
                   remaining := 10 * (if s.drive.bg2.high then s.params.bg2Low else s.params.bg2High) }))
    ∧ (Quiet s → step s = .next (State.flashKick { s with
        au := { s.au with ctx := { a := (s.ctx .a).older, b := (s.ctx .b).older } }
        aisle := { s.aisle with
          credits := s.aisle.credits.map fun c => { c with deadline := c.deadline.map (· - 1) }
          closeDelay := s.aisle.closeDelay.map (· - 1), reopenDelay := s.aisle.reopenDelay.map (· - 1) }
        drive := { s.drive with
          motion := s.drive.motion.map fun m => { m with
            remaining := m.remaining - 1
            blanking := if m.blanking.getD 0 = 0 then none else m.blanking.map (· - 1) }
          obstructCount := (match s.drive.motion with
            | none => s.drive.obstructCount
            | some m =>
              if m.blanking.getD 0 ≠ 0 then s.drive.obstructCount
              else if m.release = false ∧ s.params.threshold < s.pins.current then s.drive.obstructCount + 1
              else 0)
          holdTimer := s.drive.holdTimer.map (· - 1), pause := s.drive.pause.map (· - 1)
          buzzer := s.drive.buzzer.map (· - 1)
          bg1 := { s.drive.bg1 with remaining := s.drive.bg1.remaining - 1 }
          bg2 := { s.drive.bg2 with remaining := s.drive.bg2.remaining - 1 } }
        emergency := { s.emergency with settle := 0, releaseTimer := s.emergency.releaseTimer.map (· - 1) }
        monitor := { s.monitor with
          settleA := 0, settleF := 0, settleB := 0, loiter := s.monitor.loiter.map (· + 1) } }))
    ∧ (s.running = true → s.store.pfw = { raw := true, prev := true, accepted := false } →
      ∃ u, step s = .next u ∧ HoldoverBegun true .powerRestored s u ∧ u.store.pfw.accepted = true)
    ∧ (s.store.supply = true → s.store.run ≠ .run → (s.store.pfw.raw = s.store.pfw.prev → s.store.pfw.accepted = s.store.pfw.raw) →
      ∃ u, step s = .next u ∧ Unchanged [.power, .drive] s u
        ∧ u.store = { s.store with pfw := u.store.pfw } ∧ Sampled s.store.pfw u.store.pfw
        ∧ u.drive = { s.drive with
            openLimit := u.drive.openLimit, closedLimit := u.drive.closedLimit, bg1 := u.drive.bg1, bg2 := u.drive.bg2 }
        ∧ (s.store.run ≠ .halt →
          Sampled s.drive.openLimit u.drive.openLimit ∧ Sampled s.drive.closedLimit u.drive.closedLimit)
        ∧ (s.store.run = .halt →
          u.drive.openLimit = s.drive.openLimit ∧ u.drive.closedLimit = s.drive.closedLimit ∧ u.drive.bg1 = s.drive.bg1 ∧ u.drive.bg2 = s.drive.bg2)
        ∧ (s.store.run ≠ .halt → 1 < s.drive.bg1.remaining → 1 < s.drive.bg2.remaining →
          u.drive.bg1 = { s.drive.bg1 with remaining := s.drive.bg1.remaining - 1 }
            ∧ u.drive.bg2 = { s.drive.bg2 with remaining := s.drive.bg2.remaining - 1 }))

/-- R24, R27, R35, R36, R61, R143: a second adds one to the counter, and in RUN and HOLDOVER purges expired sightings, and
with the time VALID brings the day up to date and makes a READY tariff current whose effective day has come; a day
rollover removes the amnesty windows more than 2880 minutes past, and without one all stay. In STARTING and HALT it only
counts, the model's reading with what HOLDOVER does (assumption log 19). The count that makes an entry's age exceed the
retention removes it, the model's reading of R61 (assumption log 55). At 4,294,967,295 the counter stops and the time
is INVALID; a stopped counter stays. -/
def Obligations.SecondCounts : Prop :=
  ∀ s : State,
    (4294967295 ≤ s.time.counter → exec .secondTick s = .next s.flashKick)
    ∧ (s.time.counter = 4294967294 →
      ∃ u, exec .secondTick s = .next u ∧ Unchanged [.time, .sightings, .station, .ports, .busy] s u
        ∧ u.time = { counter := 4294967295, valid := false, day := none }
        ∧ u.station.attention.timeInvalid = true ∧ PortsKept s u)
    ∧ (s.time.counter < 4294967294 →
      ∃ u, exec .secondTick s = .next u
        ∧ Unchanged [.time, .sightings, .tariff, .emergency, .station, .ports, .busy] s u
        ∧ u.time.counter = s.time.counter + 1 ∧ u.time.valid = s.time.valid
        ∧ (s.working = false → u.sightings = s.sightings ∧ u.tariff = s.tariff ∧ u.time.day = s.time.day
            ∧ u.emergency = s.emergency)
        ∧ (s.working = true →
            u.sightings = purgeSightings s.params.retention (s.time.counter + 1) s.sightings
            ∧ (s.time.valid = false →
                u.tariff = s.tariff ∧ u.time.day = s.time.day ∧ u.emergency = s.emergency)
            ∧ (s.time.valid = true → NoneDue (s.time.counter + 1) s →
                u.tariff = s.tariff ∧ u.time.day = some (opDay ((s.time.counter + 1) / 60) s.rollover)
                ∧ u.emergency = s.afterRollover (s.time.counter + 1)
                    (s.time.day ≠ some (opDay ((s.time.counter + 1) / 60) s.rollover)))
            ∧ (∀ t, s.time.valid = true → s.tariff.pending.state = .ready → s.tariff.pending.image = some t →
                (t.effectiveDay : Int) ≤ opDay ((s.time.counter + 1) / 60) t.rollover →
                Activated t (s.time.counter + 1) s u
                ∧ u.emergency = s.afterRollover (s.time.counter + 1)
                    (s.time.day ≠ some (opDay ((s.time.counter + 1) / 60) s.rollover)
                      ∨ opDay ((s.time.counter + 1) / 60) t.rollover
                        ≠ opDay ((s.time.counter + 1) / 60) s.rollover)))
        ∧ PortsKept s u)

/-- R25, R27, R35, R36, R143: TIME_SET takes a value in its range, makes the time VALID, brings the day up to date, makes
a READY tariff current whose effective day has come, removes the amnesty windows more than 2880 minutes past at a day
rollover and none without one, and is recorded with the old time; any other value is answered BAD_VALUE, or dropped when
broadcast. -/
def Obligations.TimeSetTakesItsRange : Prop :=
  ∀ (form : Form) (n : Nat) (s : State), PortFree s →
    (n < 86400 ∨ 4294967294 < n →
      exec (.timeSet form n) s = .next (s.withStation (s.station.answered form 2 (bare .badValue))).flashKick)
    ∧ (86400 ≤ n → n ≤ 4294967294 →
      ∃ u, exec (.timeSet form n) s = .next u
        ∧ Unchanged [.time, .tariff, .emergency, .journal, .station, .ports, .busy] s u
        ∧ u.time.counter = n ∧ u.time.valid = true
        ∧ (NoneDue n s → u.tariff = s.tariff ∧ u.time.day = some (opDay (n / 60) s.rollover)
            ∧ u.emergency = s.afterRollover n (s.time.day ≠ some (opDay (n / 60) s.rollover)))
        ∧ (∀ t, s.tariff.pending.state = .ready → s.tariff.pending.image = some t →
            (t.effectiveDay : Int) ≤ opDay (n / 60) t.rollover → Activated t n s u
              ∧ u.emergency = s.afterRollover n (s.time.day ≠ some (opDay (n / 60) s.rollover)
                  ∨ opDay (n / 60) t.rollover ≠ opDay (n / 60) s.rollover))
        ∧ (CanAppend s → Appended
            { kind := .timeSet, oldTime := if s.time.valid then some s.time.counter else none } 0
            { s with time := { s.time with counter := n } } u)
        ∧ StationAnswers form 2 (bare .ok) s u ∧ PortsKept s u)

/-- R75, R113, R135 to R138: the EMERG input's assertion, or EMERGENCY_SET, starts an emergency when none stands: every
credit goes, its sighting entry USED, without an ABANDONED record; either only sets its mark when one does. -/
def Obligations.EmergencyStarts : Prop :=
  ∀ (form : Form) (s : State), NoWaits s →
    (s.running = true → s.emergency.filtered = false →
      ∃ u, exec .emergAsserted s = .next u
        ∧ Unchanged [.emergency, .aisle, .drive, .sightings, .journal, .station, .ports, .busy] s u
        ∧ u.emergency.inputMark = true ∧ u.emergency.stationMark = s.emergency.stationMark
        ∧ u.emergency.filtered = true ∧ u.emergency.releaseTimer = none
        ∧ (s.emergency.stage = none → EmergencyBegun .input s u)
        ∧ (s.emergency.stage ≠ none → u.emergency.stage = s.emergency.stage ∧ u.aisle = s.aisle ∧ u.drive = s.drive
            ∧ u.journal = s.journal ∧ u.sightings = s.sightings)
        ∧ PortsKept s u)
    ∧ (PortFree s →
      ∃ u, exec (.emergencySet form) s = .next u
        ∧ Unchanged [.emergency, .aisle, .drive, .sightings, .journal, .station, .ports, .busy] s u
        ∧ u.emergency.stationMark = true ∧ u.emergency.inputMark = s.emergency.inputMark
        ∧ u.emergency.releaseTimer = s.emergency.releaseTimer
        ∧ (s.emergency.stage = none → EmergencyBegun .station s u)
        ∧ (s.emergency.stage ≠ none → u.emergency.stage = s.emergency.stage ∧ u.aisle = s.aisle ∧ u.drive = s.drive
            ∧ u.journal = s.journal ∧ u.sightings = s.sightings)
        ∧ StationAnswers form 7 (bare .ok) s u ∧ PortsKept s u)

/-- R113, R135, R136, R139, R140: the input's deassertion starts the release timer of 2000 ms, and its row sets the raw
samples too (assumption log 10); the timer, or
EMERGENCY_CLEAR, clears its mark and ends the emergency when the other mark is clear; EMERGENCY_CLEAR is answered
BAD_STATE when none stands, the station mark is clear or the input is asserted. The flap command at the end is that of
R113's table; that it is CLOSE for a reservation without a credit in NORMALLY_CLOSED mode is the model's reading
(assumption log 17). -/
def Obligations.EmergencyEnds : Prop :=
  ∀ (form : Form) (stamp : Nat) (valid : Bool) (s : State),
    (s.running = true → s.emergency.filtered = true →
      exec .emergDeasserted s = .next (State.flashKick { s with emergency := { s.emergency with
        input := { raw := false, prev := false, accepted := false }, settle := 0, filtered := false,
        releaseTimer := some 2000 } }))
    ∧ (s.running = true → s.emergency.releaseTimer ≠ none → s.emergency.stationMark = true →
      exec .releaseTimerExpiry s = .next (State.flashKick { s with emergency := { s.emergency with
        inputMark := false, releaseTimer := none } }))
    ∧ (s.running = true → s.emergency.releaseTimer ≠ none → s.emergency.stationMark = false → s.emergency.stage ≠ none →
      s.emergency.stamp = some (stamp, valid) → s.aisle.state = .emergency → NoWaits s → s.drive.clearing = false →
      ∃ u, exec .releaseTimerExpiry s = .next u
        ∧ Unchanged [.emergency, .aisle, .drive, .journal, .station, .ports, .busy] s u
        ∧ u.emergency.inputMark = false ∧ u.emergency.releaseTimer = none ∧ EmergencyOver .input stamp valid s u
        ∧ PortsKept s u)
    ∧ (PortFree s → (s.emergency.stage = none ∨ s.emergency.stationMark = false ∨ s.emergency.filtered = true) →
      exec (.emergencyClear form) s
        = .next (s.withStation (s.station.answered form 8 (bare .badState))).flashKick)
    ∧ (PortFree s → s.emergency.stage ≠ none → s.emergency.stationMark = true → s.emergency.filtered = false →
      s.emergency.inputMark = true →
      exec (.emergencyClear form) s = .next (State.flashKick ({ s with emergency := { s.emergency with
        stationMark := false } }.withStation (s.station.answered form 8 (bare .ok)))))
    ∧ (PortFree s → s.emergency.stage ≠ none → s.emergency.stationMark = true → s.emergency.filtered = false →
      s.emergency.inputMark = false → s.emergency.stamp = some (stamp, valid) → s.aisle.state = .emergency → NoWaits s →
      s.drive.clearing = false →
      ∃ u, exec (.emergencyClear form) s = .next u
        ∧ Unchanged [.emergency, .aisle, .drive, .journal, .station, .ports, .busy] s u
        ∧ u.emergency.stationMark = false ∧ EmergencyOver .station stamp valid s u
        ∧ StationAnswers form 8 (bare .ok) s u ∧ PortsKept s u)

/-- R142: AMNESTY_ADD, addressed or broadcast, whatever the time's validity and the emergency's state, puts a well-formed
window last in a list of at most eight (R141) and answers with their number; any other window, or a payload that is not
one window, is answered BAD_VALUE, or dropped when broadcast. A window more than 2880 minutes past goes at the next day
rollover, of a second or a TIME_SET (R143). -/
def Obligations.AmnestyWindowJoins : Prop :=
  ∀ (form : Form) (station lo hi : Nat) (s : State), PortFree s →
    (71582788 < lo ∨ 71582788 < hi ∨ hi < lo →
      exec (.amnestyAdd form station lo hi) s
        = .next (s.withStation (s.station.answered form 9 (bare .badValue))).flashKick)
    ∧ (lo ≤ hi → hi ≤ 71582788 → ∀ l, l = (if s.emergency.amnesty.length < 8 then s.emergency.amnesty
          else s.emergency.amnesty.tail) ++ [{ station := station, fromMinute := lo, toMinute := hi }] →
      exec (.amnestyAdd form station lo hi) s = .next (State.flashKick
        ({ s with emergency := { s.emergency with amnesty := l } }.withStation
          (s.station.answered form 9 (okWith [byte l.length])))))
    ∧ (∀ (rate : Nat) (p : List Byte), 9312 ≤ rate → rate ≤ 237312 → p.length ≤ 120 → p.length ≠ 9 →
      exec (.stationFrame rate (stationFrame s.pins.aisleNumber 9 p)) s = .next (s.withStation
          (({ s.station with bitRate := some rate } : StationPort).answered .addressed 9 (bare .badValue))).flashKick
        ∧ exec (.stationFrame rate (stationFrame 63 9 p)) s = .next (s.withStation
          (({ s.station with bitRate := some rate } : StationPort).answered .broadcast 9 (bare .badValue))).flashKick)
    ∧ (∀ w ∈ s.emergency.amnesty, w.toMinute + 2880 < (s.time.counter + 1) / 60 → s.time.valid = true →
      s.time.counter < 4294967294 → s.time.day ≠ some (opDay ((s.time.counter + 1) / 60) s.rollover) →
      ∃ u, exec .secondTick s = .next u ∧ w ∉ u.emergency.amnesty)
    ∧ (∀ w ∈ s.emergency.amnesty, ∀ n, 86400 ≤ n → n ≤ 4294967294 → w.toMinute + 2880 < n / 60 →
      s.time.day ≠ some (opDay (n / 60) s.rollover) →
      ∃ u, exec (.timeSet form n) s = .next u ∧ w ∉ u.emergency.amnesty)

/-! ## Parameters and the aisle's requests (R111, R126, R184) -/

/-- R184: PARAM_SET stores the value clamped to the parameter's range, no other parameter, and answers with it. The aisle
mode reaches the flaps, the close delay and the head credit's deadline at once (R110); a priority above the other end's
grants the owning end's wait (R96); the service mode acts as a MODE_SET (R111); a near-full threshold raised to the free
count or above sets its flag (R153); any other parameter acts on nothing at once. PARAM_GET answers the value in force; a
number outside the table is answered BAD_VALUE. -/
def Obligations.ParametersAreClamped : Prop :=
  ∀ (n v : Nat) (s : State), PortFree s →
    (∀ lo hi, paramRange n = some (lo, hi) →
      (∃ u, exec (.paramSet n v) s = .next u
        ∧ Unchanged [.params, .station, .au, .ports, .sightings, .aisle, .drive, .emergency, .journal, .busy] s u
        ∧ u.params.value n = some (max lo (min hi v)) ∧ (∀ m, m ≠ n → u.params.value m = s.params.value m)
        ∧ StationAnswers .addressed 3 (okWith (beBytes 2 (max lo (min hi v)))) s u
        ∧ (n ∉ [2, 4, 5, 6] → Unchanged [.params, .station, .ports, .busy] s u ∧ PortsKept s u)
        ∧ (n = 2 → ∀ w, exec (.modeSet .addressed (max lo (min hi v))) s = .next w → Unchanged [.station] w u)
        ∧ (n = 4 → NoWaits s → AisleModeTaken s u ∧ PortsKept s u)
        ∧ (n = 5 ∨ n = 6 → ∀ e x d, SlotsMatch s → s.ctx e = .waitAisle x d → CanComplete s →
          s.params.serviceMode = .inService → s.aisle.reservation = none →
          (s.aisle.state = .serving ∨ s.aisle.state = .violation) → s.aisle.owned = some (endDir e) →
          s.aisle.credits ≠ [] → s.aisle.credits.length < 3 →
          u.params.priority.get e.other < u.params.priority.get e →
          WaitGranted e x s.queued s u ∧ u.ctx e.other = s.ctx e.other
            ∧ (u.port e.other).unflag = (s.port e.other).unflag)
        ∧ (n = 26 → s.params.nearFull < max lo (min hi v) → s.journal.free ≤ max lo (min hi v) →
          u.station.attention.journalNearFull = true))
      ∧ ∃ w, s.params.value n = some w
        ∧ exec (.paramGet n) s
            = .next (s.withStation (s.station.answered .addressed 4 (okWith (beBytes 2 w)))).flashKick)
    ∧ (n = 0 ∨ 26 < n →
      exec (.paramSet n v) s = .next (s.withStation (s.station.answered .addressed 3 (bare .badValue))).flashKick
      ∧ exec (.paramGet n) s = .next (s.withStation (s.station.answered .addressed 4 (bare .badValue))).flashKick)

/-- R111: MODE_SET stores the mode: IN takes an aisle out of OUT_OF_SERVICE that no FAULT holds there, OUT takes an IDLE one
out. SERVING with anything outstanding, VIOLATION whose reopen delay has not run out, EMERGENCY, and OUT_OF_SERVICE by a FAULT
stay as they are under either; a code that is neither is answered BAD_VALUE. -/
def Obligations.ModeSetMovesTheAisle : Prop :=
  ∀ (form : Form) (mode : Nat) (s : State), PortFree s → NoWaits s →
    (1 < mode → exec (.modeSet form mode) s
      = .next (s.withStation (s.station.answered form 5 (bare .badValue))).flashKick)
    ∧ (mode ≤ 1 → ∃ u, exec (.modeSet form mode) s = .next u
        ∧ Unchanged [.params, .station, .aisle, .drive, .emergency, .ports, .busy] s u
        ∧ u.params = { s.params with serviceMode := if mode = 0 then .outOf else .inService }
        ∧ u.queued = s.queued ∧ u.aisle.reservation = s.aisle.reservation
        ∧ (mode = 1 → s.aisle.state = .outOfService → s.drive.flap ≠ .fault → s.drive.clearing = false → Vacant s →
            u.aisle.state = .idle ∧ u.aisle.owned = none)
        ∧ (mode = 0 → s.aisle.state = .idle → s.aisle.reservation = none → u.aisle.state = .outOfService)
        ∧ (s.aisle.state = .serving → s.aisle.credits ≠ [] ∨ s.aisle.reservation ≠ none →
            u.aisle.state = .serving ∧ u.aisle.owned = s.aisle.owned)
        ∧ (s.aisle.state = .violation → s.aisle.reopenDelay ≠ some 0 → s.params.reopenDelay ≠ 0 →
            u.aisle.state = .violation ∧ u.aisle.owned = s.aisle.owned)
        ∧ (s.aisle.state = .emergency → u.aisle.state = .emergency)
        ∧ (s.aisle.state = .outOfService → s.drive.clearing = false ∨ s.drive.closedLimit.accepted = false →
            mode = 0 ∨ s.drive.flap = .fault ∨ s.drive.clearing = true → u.aisle.state = .outOfService)
        ∧ StationAnswers form 5 (bare .ok) s u ∧ PortsKept s u)

/-- R126: FAULT_CLEAR starts the clearing motion of a drive in FAULT, at once when R120 allows; it changes nothing with
the mark already set, and is answered BAD_STATE in an emergency or without a FAULT. -/
def Obligations.FaultClearStartsTheMotion : Prop :=
  ∀ s : State, PortFree s →
    (s.emergency.stage ≠ none ∨ s.drive.clearing = false ∧ s.drive.flap ≠ .fault →
      exec .faultClear s = .next (s.withStation (s.station.answered .addressed 6 (bare .badState))).flashKick)
    ∧ (s.emergency.stage = none → s.drive.clearing = true →
      exec .faultClear s = .next (s.withStation (s.station.answered .addressed 6 (bare .ok))).flashKick)
    ∧ (s.emergency.stage = none → s.drive.clearing = false → s.drive.flap = .fault → s.aisle.state = .outOfService →
      s.drive.closedLimit.accepted = false → NoWaits s →
      ∃ u, exec .faultClear s = .next u ∧ Unchanged [.station, .aisle, .drive, .emergency, .ports, .busy] s u
        ∧ u.drive.clearing = true ∧ u.drive.retryCount = 0 ∧ u.aisle.state = .outOfService
        ∧ u.drive.flap = (if s.monitor.zones.zF = false ∧ s.drive.closeHold = false then .closing else .fault)
        ∧ StationAnswers .addressed 6 (bare .ok) s u ∧ PortsKept s u)

/-! ## The deny list (chapter 5) -/

/-- R81, R82, R85, R86, R89: DENY_RELOAD begins a load; DENY_ADD and DENY_REMOVE are refused when malformed, held for
their entries when next, ignored when a repeat or stale, and a gap otherwise; DENY_COMPLETE completes at the list's
generation. Each is answered with its outcome. That a frame that is next takes no entry itself, the first included, is
the model's choice: each entry is an event of its own (assumption log 12). -/
def Obligations.DenyUpdatesAreJudged : Prop :=
  ∀ (form : Form) (g k : Nat) (items : List DenyItem) (cards : List Nat) (gap : State) (s : State), PortFree s →
    k = (g + 65536 - s.deny.generation) % 65536 →
    gap = { s with
      deny := { s.deny with gap := true, state := if s.deny.state = .empty then .empty else .loading }
      station := { s.station with attention := { s.station.attention with denyGap := true } } } →
    exec (.denyReload form g) s = .next (State.flashKick
      ({ s with deny := { s.deny with
          entries := s.deny.entries.filter fun e : DenyEntry => e.origin == Origin.aisle
          generation := g, state := .loading, overflow := false, gap := false } }.withStation
        (s.station.answered form 10 (okWith ([0] ++ beBytes 2 g ++ [1, 0])))))
    ∧ (items.length < 1 ∨ 8 < items.length → exec (.denyAdd form g items) s
        = .next (s.withStation (s.station.answered form 11 (bare .badValue))).flashKick)
    ∧ (1 ≤ items.length → items.length ≤ 8 →
      (s.deny.state ≠ .empty → k = 1 → exec (.denyAdd form g items) s = .next (State.flashKick
        ({ s with deny := { s.deny with
            job := some { adding := true, generation := g, rest := items, notAdded := 0 } } }.withStation
          (s.station.holding form 11))))
      ∧ (s.deny.state ≠ .empty → (k = 0 ∨ 32768 ≤ k) → exec (.denyAdd form g items) s
          = .next (s.withStation (s.station.answered form 11 (s.denyAnswer 1 0))).flashKick)
      ∧ (s.deny.state = .empty ∨ 2 ≤ k ∧ k < 32768 → exec (.denyAdd form g items) s
          = .next (gap.withStation (gap.station.answered form 11 (gap.denyAnswer 2 0))).flashKick))
    ∧ (cards.length < 1 ∨ 8 < cards.length → exec (.denyRemove form g cards) s
        = .next (s.withStation (s.station.answered form 12 (bare .badValue))).flashKick)
    ∧ (1 ≤ cards.length → cards.length ≤ 8 →
      (s.deny.state ≠ .empty → k = 1 → exec (.denyRemove form g cards) s = .next (State.flashKick
        ({ s with deny := { s.deny with
            job := some { adding := false, generation := g, rest := cards.map fun c => { card := c, reason := 0 },
                          notAdded := 0 } } }.withStation
          (s.station.holding form 12))))
      ∧ (s.deny.state ≠ .empty → (k = 0 ∨ 32768 ≤ k) → exec (.denyRemove form g cards) s
          = .next (s.withStation (s.station.answered form 12 (s.denyAnswer 1 0))).flashKick)
      ∧ (s.deny.state = .empty ∨ 2 ≤ k ∧ k < 32768 → exec (.denyRemove form g cards) s
          = .next (gap.withStation (gap.station.answered form 12 (gap.denyAnswer 2 0))).flashKick))
    ∧ (s.deny.state ≠ .empty → k = 0 → exec (.denyComplete form g) s = .next (State.flashKick
        ({ s with deny := { s.deny with state := .complete } }.withStation
          (s.station.answered form 13 (okWith ([0] ++ beBytes 2 s.deny.generation ++ [2, 0]))))))
    ∧ (s.deny.state ≠ .empty → 32768 ≤ k → exec (.denyComplete form g) s
        = .next (s.withStation (s.station.answered form 13 (s.denyAnswer 1 0))).flashKick)
    ∧ (s.deny.state = .empty ∨ 1 ≤ k ∧ k < 32768 → exec (.denyComplete form g) s
        = .next (gap.withStation (gap.station.answered form 13 (gap.denyAnswer 2 0))).flashKick)

/-- R22, R83, R84, R89, R90: one entry of the frame in hand is taken: a removal takes its number out; an addition
creates or takes over its number's STATION entry, a full list giving its oldest LOCAL entry for it or, with none,
counting the number as not added; every other number's entry stays. An insert holds a DECIDED context of its card. The
last entry sets the generation and answers with the count. -/
def Obligations.DenyEntryIsTaken : Prop :=
  ∀ (j : DenyJob) (i : DenyItem) (rest : List DenyItem) (b : Inbound) (n : Nat) (s : State), s.running = true →
    NoWaits s → s.deny.job = some j → j.rest = i :: rest → s.station.inbound = some b → b.form = .addressed →
    b.cancelled = false → (∀ e, (s.ctx e).tag ≠ .waitAisle) →
    n = j.notAdded + (if j.adding = true ∧ i.card ≠ 0 ∧ s.deny.find i.card = none ∧ 8192 ≤ s.deny.entries.length
      ∧ s.deny.localOrder = [] then 1 else 0) →
    ∃ u, exec .denyEntryApply s = .next u
      ∧ Unchanged [.deny, .au, .station, .aisle, .drive, .emergency, .ports, .busy] s u
      ∧ u.queued = s.queued ∧ u.aisle.reservation = s.aisle.reservation ∧ u.au.lateCard = s.au.lateCard ∧ PortsKept s u
      ∧ u.deny.state = s.deny.state ∧ u.deny.gap = s.deny.gap
      ∧ u.deny.overflow = (s.deny.overflow || decide (n ≠ j.notAdded))
      ∧ u.station = { s.station with
          reply := u.station.reply
          attention := { s.station.attention with
            denyOverflow := s.station.attention.denyOverflow || decide (n ≠ j.notAdded) } }
      ∧ (rest = [] → u.deny.generation = j.generation ∧ u.deny.job = none
          ∧ u.station.reply = some
              { kind := b.kind, status := .ok, payload := [0] ++ beBytes 2 j.generation ++ [byte s.deny.state.code, byte n] })
      ∧ (rest ≠ [] → u.deny.generation = s.deny.generation ∧ u.station.reply = s.station.reply
          ∧ u.deny.job = some { j with rest := rest, notAdded := n })
      ∧ (j.adding = false → u.deny.entries = s.deny.entries.filter (fun x => x.card != i.card)
          ∧ u.deny.localOrder = s.deny.localOrder.filter (fun c => c != i.card) ∧ u.au = s.au)
      ∧ (j.adding = true → i.card = 0 ∨ n ≠ j.notAdded →
          u.deny.entries = s.deny.entries ∧ u.deny.localOrder = s.deny.localOrder ∧ u.au = s.au)
      ∧ (∀ x, j.adding = true → i.card ≠ 0 → s.deny.find i.card = some x →
          u.deny.find i.card = some { x with origin := .station, reason := i.reason }
            ∧ (∀ c, c ≠ i.card → u.deny.find c = s.deny.find c)
            ∧ u.deny.localOrder = s.deny.localOrder.filter (fun c => c != i.card) ∧ u.au = s.au)
      ∧ (j.adding = true → i.card ≠ 0 → s.deny.find i.card = none → s.deny.entries.length < 8192 →
          u.deny.find i.card = some { card := i.card, origin := .station, reason := i.reason, added := s.time.counter }
          ∧ (∀ c, c ≠ i.card → u.deny.find c = s.deny.find c) ∧ u.deny.localOrder = s.deny.localOrder
          ∧ ∀ e x d, s.ctx e = .decided x d →
              u.ctx e = .decided { x with flags := { x.flags with held := x.flags.held || x.card == i.card } } d)
      ∧ (∀ k ks, j.adding = true → i.card ≠ 0 → s.deny.find i.card = none → 8192 ≤ s.deny.entries.length → s.deny.WF →
          s.deny.localOrder = k :: ks →
          u.deny.find i.card = some { card := i.card, origin := .station, reason := i.reason, added := s.time.counter }
          ∧ u.deny.find k = none ∧ (∀ c, c ≠ i.card → c ≠ k → u.deny.find c = s.deny.find c)
          ∧ u.deny.localOrder = ks ∧ u.deny.entries.length = s.deny.entries.length
          ∧ ∀ e x d, s.ctx e = .decided x d →
              u.ctx e = .decided { x with flags := { x.flags with held := x.flags.held || x.card == i.card } } d)

/-! ## The tariff load (2.4, 2.5) -/

/-- R30 to R34: TARIFF_BEGIN and TARIFF_CANCEL discard what was pending and queue an erase; TARIFF_BLOCK is checked and
queued; TARIFF_END waits; a load whose operations are done is validated: rejected with the first failing check's reason,
which answers the TARIFF_END, or passed on to its completion record. A TARIFF_BLOCK whose data is not 64 bytes is
BAD_VALUE in every state, a payload length that is none, where R31 alone has BAD_STATE outside LOADING (assumption log
39). -/
def Obligations.TariffLoadProceeds : Prop :=
  (∀ (v d i c : Nat) (data : List Byte) (discarded s : State), PortFree s →
    discarded = { s with
      tariff := { s.tariff with
        queue := s.tariff.queue.filter (fun op => !op.isLoad) ++ [.erase s.tariff.pendingArea]
        pending := pendingEmpty }
      store := { s.store with busy := disregardLoad s.store.busy } } →
    exec (.tariffBegin v d) s = .next (State.flashKick ({ discarded with tariff := { discarded.tariff with
        pending := { pendingEmpty with state := .loading, version := v, effectiveDay := d } } }.withStation
          (s.station.answered .addressed 15 (bare .ok))))
    ∧ (s.tariff.pending.state = .empty → exec .tariffCancel s
        = .next (s.withStation (s.station.answered .addressed 18 (bare .ok))).flashKick)
    ∧ (s.tariff.pending.state ≠ .empty → exec .tariffCancel s
        = .next (discarded.withStation (s.station.answered .addressed 18 (bare .ok))).flashKick)
    ∧ (data.length ≠ 64 → exec (.tariffBlock i data) s
        = .next (s.withStation (s.station.answered .addressed 16 (bare .badValue))).flashKick)
    ∧ (data.length = 64 →
      (∀ st, st = (if s.tariff.pending.state ≠ .loading then Status.badState
            else if 63 < i then .badValue
            else if i ∈ s.tariff.pending.taken then .badState
            else if 4 ≤ s.tariff.queue.length then .busy else .ok) →
        (st ≠ .ok → exec (.tariffBlock i data) s
          = .next (s.withStation (s.station.answered .addressed 16 (bare st))).flashKick)
        ∧ (st = .ok → exec (.tariffBlock i data) s = .next (State.flashKick
          ({ s with tariff := { s.tariff with
              pending := { s.tariff.pending with taken := s.tariff.pending.taken ++ [i] }
              queue := s.tariff.queue ++ [TariffOp.block s.tariff.pendingArea i data] } }.withStation
            (s.station.answered .addressed 16 (bare .ok)))))))
    ∧ (s.tariff.pending.state ≠ .loading → exec (.tariffEnd c) s
        = .next (s.withStation (s.station.answered .addressed 17 (bare .badState))).flashKick)
    ∧ (s.tariff.pending.state = .loading → exec (.tariffEnd c) s = .next (State.flashKick
        ({ s with tariff := { s.tariff with pending := { s.tariff.pending with endCheck := some c } } }.withStation
          (s.station.holding .addressed 17)))))
    ∧ ∀ (c : Nat) (b : Inbound) (s : State), s.running = true → s.tariff.pending.state = .loading →
      s.tariff.pending.endCheck = some c → (∀ op ∈ s.tariff.queue, op.isLoad = false) →
      s.station.inbound = some b → b.form = .addressed → b.cancelled = false →
      (∀ r, (s.loadFacts c).validate = .error r → exec .tariffValidate s = .next (State.flashKick
        ({ s with tariff := { s.tariff with pending := { s.tariff.pending with
            state := .rejected, reason := some r, endCheck := none } } }.withStation { s.station with
          reply := some { kind := b.kind, status := .ok, payload := [2, byte (rejectCode (some r))] } })))
      ∧ (∀ x, (s.loadFacts c).validate = .ok x → exec .tariffValidate s = .next (State.flashKick
        { s with tariff := { s.tariff with
            pending := { s.tariff.pending with image := some x }
            queue := s.tariff.queue ++ [TariffOp.completion s.tariff.pendingArea
              { version := x.version, effectiveDay := x.effectiveDay, blockCount := (s.loadFacts c).count, check := c }] } }))

/-! ## Requests that only answer (R29, R87, R154, R164, R185) -/

/-- R29, R87, R154, R164, R183, R185: INFO, DENY_INFO, TARIFF_INFO and JOURNAL_INFO change nothing but the reply in
hand, whose fields are those of the event; outside RUN every request but INFO is answered NOT_READY. The oldest
uncollected sequence is sent as its low 32 bits, which differs from it for 4,294,967,296 alone, the model's choice
(assumption log 49). -/
def Obligations.QueriesAnswerAndChangeNothing : Prop :=
  ∀ s : State, LineFree s →
    exec .info s = .next (s.withStation (s.station.answered .addressed 1 (okWith
        (([match s.store.run with | .starting => 0 | .run => 1 | _ => 2, byte s.pins.aisleNumber,
            byte s.params.stationCode, byte s.summary.code, if s.params.serviceMode = .inService then 1 else 0,
            byte s.aisle.state.code, match s.aisle.owned with | none => 0 | some .aToB => 1 | some .bToA => 2,
            byte s.aisle.credits.length,
            (if s.emergency.stage ≠ none then 1 else 0) + (if s.emergency.stage = some .released then 2 else 0)
              + (if s.emergency.inputMark then 4 else 0) + (if s.emergency.stationMark then 8 else 0)] : List Byte)
          ++ beBytes 4 s.time.counter
          ++ ([if s.time.valid then 1 else 0, if s.tariff.current = none then 0 else 1] : List Byte)
          ++ beBytes 2 (match s.tariff.current with | some t => t.version | none => 0)
          ++ [byte s.tariff.pending.state.code] ++ beBytes 2 s.station.attention.toNat)))).flashKick
    ∧ (∀ r : StationRequest, r ≠ .info → r.fits = true → s.running = false → exec r.command s
        = .next (s.withStation (s.station.answered .addressed r.kind (bare .notReady))).flashKick)
    ∧ (s.running = true →
      exec .journalInfo s = .next (s.withStation (s.station.answered .addressed 20 (okWith
        (beBytes 4 s.oldestUncollected ++ beBytes 4 s.journal.lastSeq ++ beBytes 2 s.journal.free
          ++ [byte s.journal.reserved] ++ beBytes 2 s.journal.dropped
          ++ [if s.journal.free ≤ s.params.nearFull then 1 else 0])))).flashKick
      ∧ exec .tariffInfo s = .next (s.withStation (s.station.answered .addressed 19 (okWith
        (([if s.tariff.current = none then 0 else 1] : List Byte)
          ++ beBytes 2 (match s.tariff.current with | some t => t.version | none => 0)
          ++ beBytes 2 (match s.tariff.current with | some t => t.effectiveDay | none => 0)
          ++ [byte s.tariff.pending.state.code] ++ beBytes 2 s.tariff.pending.version
          ++ beBytes 2 s.tariff.pending.effectiveDay
          ++ [byte s.tariff.pending.taken.length, byte (rejectCode s.tariff.pending.reason)])))).flashKick
      ∧ ∀ c, exec (.denyInfo c) s = .next (s.withStation (s.station.answered .addressed 14 (okWith
        (beBytes 2 s.deny.generation ++ [byte s.deny.state.code] ++ beBytes 2 s.deny.entries.length
          ++ beBytes 2 (s.deny.entries.length - s.deny.localOrder.length) ++ beBytes 2 s.deny.localOrder.length
          ++ [(if s.deny.overflow then 1 else 0) + (if s.deny.gap then 2 else 0)]
          ++ (match c with
            | none => []
            | some n =>
              match s.deny.find n with
              | none => [0, 0, 0, 0, 0, 0, 0]
              | some x => [1, if x.origin = .station then 0 else 1, byte x.reason] ++ beBytes 4 x.added))))).flashKick)

/-- 9.6, R155 to R157, R173, R185: JOURNAL_READ and JOURNAL_READ_NEXT answer, in sequence order, the first readable
records from their start and move the cursor. A record is readable when its sequence is above the mark and it stands in
the write queue or in a flash slot, that of a RELEASED page among them, the model's reading (assumption log 41); a cursor
of 4,294,967,296 is kept whole, the model's choice (assumption log 49). JOURNAL_RELEASE moves the mark up to its limit,
never past the newest programmed record; R158: each WRITTEN page with no sequence above the mark moved, and no other,
becomes RELEASED and joins the erase queue, but for the page of the newest record, whose meaning after a given-up record is
the model's choice (assumption log 50). EVENTS_CLEAR clears the flags its mask names; RESTART is answered first. -/
def Obligations.JournalAndEventRequests : Prop :=
  ∀ (start n limit mask : Nat) (s : State), PortFree s →
    (∀ r, r ∈ s.readable
        ↔ s.journal.mark < r.sequence ∧ (r ∈ s.journal.queue ∨ ∃ k, (k, Slot.record r) ∈ s.flash.slots))
    ∧ (∀ l : List Record, (sortRecords l).Perm l ∧ (sortRecords l).Pairwise fun a b => a.sequence ≤ b.sequence)
    ∧ (s.readable = [] → s.oldestUncollected = s.journal.lastSeq + 1)
    ∧ (s.readable ≠ [] → (∃ r ∈ s.readable, r.sequence = s.oldestUncollected)
        ∧ ∀ r ∈ s.readable, s.oldestUncollected ≤ r.sequence)
    ∧ (n < 1 ∨ 3 < n →
      exec (.journalRead start n) s
          = .next (s.withStation (s.station.answered .addressed 21 (bare .badValue))).flashKick
        ∧ exec (.journalReadNext n) s
          = .next (s.withStation (s.station.answered .addressed 22 (bare .badValue))).flashKick)
    ∧ (1 ≤ n → n ≤ 3 → ∀ rs, rs = (sortRecords (s.readable.filter fun r => decide (start ≤ r.sequence))).take n →
      ∀ w, w = { s with journal := { s.journal with cursor := match rs.getLast? with
          | some r => r.sequence + 1
          | none => max start s.oldestUncollected } } →
        exec (.journalRead start n) s
          = .next (w.withStation (s.station.answered .addressed 21 (okWith (recordsPayload rs)))).flashKick
        ∧ (s.journal.cursor = start → exec (.journalReadNext n) s
          = .next (w.withStation (s.station.answered .addressed 22 (okWith (recordsPayload rs)))).flashKick))
    ∧ (∃ u, exec (.journalRelease limit) s = .next u ∧ Unchanged [.journal, .station, .busy] s u
        ∧ u.journal.mark = max s.journal.mark (min limit s.journal.newestProgrammed)
        ∧ u.journal.lastSeq = s.journal.lastSeq ∧ u.journal.queue = s.journal.queue ∧ u.journal.free = s.journal.free
        ∧ u.journal.reserved = s.journal.reserved ∧ u.journal.cursor = s.journal.cursor
        ∧ PagesReleased (min limit s.journal.newestProgrammed) s u
        ∧ u.station = s.station.answered .addressed 23
            (okWith (beBytes 4 (max s.journal.mark (min limit s.journal.newestProgrammed)))))
    ∧ (∀ st, st = { s.station with attention := s.station.attention.clear mask } → exec (.eventsClear mask) s
        = .next (s.withStation (st.answered .addressed 24 (okWith (beBytes 2 st.attention.toNat)))).flashKick)
    ∧ exec .restart s = .next (s.withStation (s.station.answered .addressed 25 (bare .ok))).flashKick

/-! ## The station line (R173, R180, R182) -/

/-- R173, R180, R182: a break begins a frame, and cancels the reply of a request in hand; a frame that breaks off leaves
no trace; a reply begins, ends with its bytes sent, or is abandoned at a collision, which frees the buffer; so does a
break that cancels a reply in hand that has not begun. The end of a RESTART's reply, its collision or its cancelling
starts its holdover, with assumption logs 5, 12, 30 and 38 as HoldoverBegun names them. -/
def Obligations.StationLineEvents : Prop :=
  ∀ s : State, s.listening = true →
    (s.station.inbound = none →
      exec .lineBreak s = .next (s.withStation { s.station with receive := .afterBreak }).flashKick)
    ∧ (∀ b, s.station.inbound = some b → b.form = .addressed → s.station.direction = false → s.station.reply = none →
      exec .lineBreak s = .next (s.withStation { s.station with
        receive := .afterBreak, inbound := some { b with cancelled := true } }).flashKick)
    ∧ (∀ b r, s.station.inbound = some b → b.form = .addressed → s.station.direction = false →
      s.station.reply = some r →
      (b.kind ≠ 25 ∨ s.running = false ∨ r.status ≠ .ok →
        exec .lineBreak s = .next (s.withStation { s.station with
          receive := .afterBreak, inbound := none, reply := none }).flashKick)
      ∧ (b.kind = 25 → s.running = true → r.status = .ok →
        ∃ u, exec .lineBreak s = .next u ∧ HoldoverBegun false .stationRestart s u))
    ∧ (∀ b, s.station.inbound = some b → b.form = .broadcast ∨ s.station.direction = true →
      exec .lineBreak s = .next (s.withStation { s.station with receive := .afterBreak }).flashKick)
    ∧ exec .incompleteFrame s = .next (s.withStation { s.station with receive := .waitBreak }).flashKick
    ∧ exec .framingError s = .next (s.withStation { s.station with receive := .waitBreak }).flashKick
    ∧ (∀ r, s.station.reply = some r → s.station.direction = false →
      exec .stationReply s = .next (s.withStation { s.station with direction := true }).flashKick)
    ∧ (∀ b r, s.station.inbound = some b → s.station.reply = some r → s.station.direction = true →
      (b.kind ≠ 25 ∨ s.running = false →
        exec .stationReplyEnd s = .next (s.withStation { s.station with
          direction := false, sent := replyBytes s.pins.aisleNumber r, inbound := none, reply := none }).flashKick
        ∧ exec .collision s = .next (s.withStation { s.station with
            direction := false, inbound := none, reply := none
            attention := { s.station.attention with collision := true } }).flashKick)
      ∧ (b.kind = 25 → s.running = true → r.status = .ok →
        (∃ u, exec .stationReplyEnd s = .next u ∧ HoldoverBegun false .stationRestart s u
          ∧ u.station.sent = replyBytes s.pins.aisleNumber r)
        ∧ ∃ u, exec .collision s = .next u ∧ HoldoverBegun false .stationRestart s u
          ∧ u.station.attention.collision = true))

/-! ## Flash operations (R161 to R163) -/

/-- R161, R162: an idle flash store in RUN takes the first turn that finds an entry, and an operation in progress is not
cut short. -/
def Obligations.FlashTakesItsTurns : Prop :=
  ∀ s : State, (s.store.busy ≠ none → s.flashKick = s)
    ∧ (s.running = true → s.store.busy = none → ∀ u, u = s.flashKick →
      u = { s with store := { s.store with busy := u.store.busy } }
      ∧ (s.journal.queue ≠ [] → u.store.busy = some .record)
      ∧ (s.journal.queue = [] →
        (∀ p ps, s.journal.eraseQueue = p :: ps → (s.journal.free < 64 ∨ s.tariff.queue = []) →
          u.store.busy = some (.pageRelease p))
        ∧ (∀ op ops, s.tariff.queue = op :: ops → (64 ≤ s.journal.free ∨ s.journal.eraseQueue = []) →
          u.store.busy = some (.tariff op false))
        ∧ (s.tariff.queue = [] → s.journal.eraseQueue = [] → u.store.busy = none)))

/-- R151, R158, R163: a verified record stands in its slot and leaves the queue; a torn one takes another slot, or with
no pool is given up; a page release leaves its page ERASED, with JOURNAL_NEAR_FULL where the free count is still at or
below the threshold (R153; assumption log 35), or RETIRED with FAULT and with its release marker (R166). In HOLDOVER the run state stands when the last of
them ends, the model's choice: HOLDOVER_END is the row that ends it (assumption log 12). -/
def Obligations.JournalResultsAreTaken : Prop :=
  ∀ s : State, s.listening = true →
    (∀ (r : Record) (rest : List Record) (place : Nat), s.store.busy = some .record → s.journal.queue = r :: rest →
      place = (if s.journal.progSlot < 64 then s.journal.progPage * 64 + s.journal.progSlot
        else nextPage s.journal.pages 128 s.journal.progPage * 64) →
      (∃ u, exec (.recordProgramDone true) s = .next u ∧ Unchanged [.flash, .journal, .busy] s u
        ∧ u.journal.queue = rest ∧ u.journal.newestProgrammed = r.sequence ∧ u.journal.lastSeq = s.journal.lastSeq
        ∧ u.journal.free = s.journal.free ∧ u.journal.reserved = s.journal.reserved
        ∧ u.flash.slot place = some (.record r) ∧ ∀ n, n ≠ place → u.flash.slot n = s.flash.slot n)
      ∧ (s.journal.reserved < s.journal.free →
        ∃ u, exec (.recordProgramDone false) s = .next u ∧ Unchanged [.flash, .journal, .station, .ports, .busy] s u
          ∧ u.journal.queue = s.journal.queue ∧ u.journal.free = s.journal.free - 1
          ∧ u.journal.lastSeq = s.journal.lastSeq ∧ u.flash.slot place = some .torn
          ∧ (∀ n, n ≠ place → u.flash.slot n = s.flash.slot n) ∧ PortsKept s u)
      ∧ (s.journal.free ≤ s.journal.reserved →
        ∃ u, exec (.recordProgramDone false) s = .next u ∧ Unchanged [.flash, .journal, .station, .ports, .busy] s u
          ∧ u.journal.queue = rest ∧ u.journal.dropped = min 65535 (s.journal.dropped + 1)
          ∧ u.journal.free = s.journal.free ∧ u.station.attention.fault = true ∧ u.flash.slot place = some .torn
          ∧ (∀ n, n ≠ place → u.flash.slot n = s.flash.slot n) ∧ PortsKept s u))
    ∧ (∀ p, s.store.busy = some (.pageRelease p) →
      (∃ u, exec (.pageReleaseDone true) s = .next u ∧ Unchanged [.flash, .journal, .station, .ports, .busy] s u
        ∧ u.station = (if s.journal.free + 64 ≤ s.params.nearFull then
            { s.station with attention := { s.station.attention with journalNearFull := true } } else s.station)
        ∧ u.journal.pages = s.journal.pages.set p .erased ∧ u.journal.free = s.journal.free + 64
        ∧ u.journal.eraseQueue = s.journal.eraseQueue.filter (fun q => q != p)
        ∧ (∀ n, u.flash.slot n = if n / 64 = p then none else s.flash.slot n)
        ∧ p ∉ u.flash.releaseMarkers ∧ PortsKept s u)
      ∧ (∃ u, exec (.pageReleaseDone false) s = .next u ∧ Unchanged [.flash, .journal, .station, .draws, .busy] s u
        ∧ u.journal.pages = s.journal.pages.set p .retired ∧ u.journal.free = s.journal.free
        ∧ u.journal.eraseQueue = s.journal.eraseQueue.filter (fun q => q != p)
        ∧ u.station.attention.fault = true ∧ p ∈ u.flash.releaseMarkers
        ∧ ∀ n, n / 64 ≠ p → u.flash.slot n = s.flash.slot n))

/-- R31, R33, R36, R40, R143, R163: a verified tariff operation stands in flash; a failed erase or block dooms the load; the
completion record makes it READY or REJECTED and answers, and a tariff whose day has come is activated, its marker with
the number that follows queued, and a day rollover that its rollover minute gives taken; the activation marker is
recorded, or raises FAULT. An operation that TARIFF_BEGIN or
TARIFF_CANCEL disregards changes flash alone. The model's choices in it: a failed program leaves its place as it was
(assumption log 15), a failed erase leaves its area open and nothing else (assumption log 5), and a HOLDOVER whose last
operation ends stands until HOLDOVER_END (assumption log 12). -/
def Obligations.TariffResultsAreTaken : Prop :=
  ∀ (s : State) (a : AreaId), s.listening = true →
    (s.store.busy = some (.tariff (.erase a) false) →
      (∃ u, exec (.tariffEraseDone true) s = .next u ∧ Unchanged [.flash, .tariff, .busy] s u
        ∧ u.tariff = { s.tariff with queue := s.tariff.queue.tail }
        ∧ u.flash = s.flash.setArea a { blocks := [], completion := none, marker := none })
      ∧ (∃ u, exec (.tariffEraseDone false) s = .next u ∧ Unchanged [.flash, .tariff, .draws, .busy] s u
        ∧ u.tariff = { s.tariff with queue := s.tariff.queue.tail, pending := { s.tariff.pending with failed := true } }
        ∧ u.flash.slots = s.flash.slots ∧ u.flash.area a.other = s.flash.area a.other))
    ∧ (∀ i data, s.store.busy = some (.tariff (.block a i data) false) →
      (∃ u, exec (.blockProgramDone true) s = .next u ∧ Unchanged [.flash, .tariff, .busy] s u
        ∧ u.tariff = { s.tariff with queue := s.tariff.queue.tail }
        ∧ blockBytes (u.flash.area a).blocks i = data
        ∧ (∀ k, k ≠ i → blockBytes (u.flash.area a).blocks k = blockBytes (s.flash.area a).blocks k)
        ∧ u.flash.slots = s.flash.slots ∧ u.flash.area a.other = s.flash.area a.other)
      ∧ (∃ u, exec (.blockProgramDone false) s = .next u ∧ Unchanged [.tariff, .busy] s u
        ∧ u.tariff = { s.tariff with queue := s.tariff.queue.tail
                                     pending := { s.tariff.pending with failed := true } }))
    ∧ (∀ c b x, s.store.busy = some (.tariff (.completion a c) false) → s.running = true →
      s.tariff.pending.endCheck = some x → s.station.inbound = some b → b.form = .addressed → b.cancelled = false →
      ((s.time.valid = false ∨ ∃ t, s.tariff.pending.image = some t
          ∧ opDay (s.time.counter / 60) t.rollover < (t.effectiveDay : Int)) →
        ∃ u, exec (.completionRecordDone true) s = .next u ∧ Unchanged [.flash, .tariff, .station, .busy] s u
          ∧ (u.flash.area a).completion = some c ∧ u.tariff.pending.state = .ready
          ∧ u.tariff.pending.image = s.tariff.pending.image ∧ u.tariff.current = s.tariff.current
          ∧ u.station = { s.station with reply := some { kind := b.kind, status := .ok, payload := [0, 0] } })
      ∧ (∀ t, s.time.valid = true → s.tariff.pending.image = some t →
          (t.effectiveDay : Int) ≤ opDay (s.time.counter / 60) t.rollover →
        ∃ u, exec (.completionRecordDone true) s = .next u
          ∧ Unchanged [.flash, .tariff, .time, .emergency, .station, .ports, .busy] s u
          ∧ u.tariff.current = some t ∧ u.tariff.pending.state = .empty
          ∧ u.time = { s.time with day := some (opDay (s.time.counter / 60) t.rollover) }
          ∧ u.emergency
            = s.afterRollover s.time.counter (s.time.day ≠ some (opDay (s.time.counter / 60) t.rollover))
          ∧ u.tariff.pendingArea = s.tariff.pendingArea.other ∧ u.station.attention.tariffActivated = true
          ∧ u.tariff.queue = s.tariff.queue.tail ++ [TariffOp.marker s.tariff.pendingArea
              (match (s.flash.area s.tariff.pendingArea.other).marker with
                | none => 1
                | some n => if n = 4294967295 then 1 else n + 1) t.version]
          ∧ u.station.reply = some { kind := b.kind, status := .ok, payload := [1, 0] } ∧ PortsKept s u)
      ∧ (∃ u, exec (.completionRecordDone false) s = .next u ∧ Unchanged [.tariff, .station, .busy] s u
          ∧ u.tariff.pending.state = .rejected ∧ u.tariff.pending.reason = some .flash
          ∧ u.station = { s.station with reply := some { kind := b.kind, status := .ok, payload := [2, 1] } }))
    ∧ (∀ n v, s.store.busy = some (.tariff (.marker a n v) false) →
      (CanAppend s → ∃ u, exec (.activationMarkerDone true) s = .next u
        ∧ Unchanged [.flash, .tariff, .journal, .station, .ports, .busy] s u
        ∧ (u.flash.area a).marker = some n ∧ u.tariff = { s.tariff with queue := s.tariff.queue.tail }
        ∧ Appended { kind := .tariffActivated, reference := some v } 0 s u ∧ PortsKept s u)
      ∧ (∃ u, exec (.activationMarkerDone false) s = .next u ∧ Unchanged [.tariff, .station, .busy] s u
        ∧ u.tariff = { s.tariff with queue := s.tariff.queue.tail } ∧ u.station.attention.fault = true))
    ∧ (s.store.busy = some (.tariff (.erase a) true) →
      (∃ u, exec (.tariffEraseDone true) s = .next u ∧ Unchanged [.flash, .busy] s u
        ∧ u.flash = s.flash.setArea a { blocks := [], completion := none, marker := none })
      ∧ ∃ u, exec (.tariffEraseDone false) s = .next u ∧ Unchanged [.flash, .draws, .busy] s u
        ∧ u.flash.slots = s.flash.slots ∧ u.flash.area a.other = s.flash.area a.other)
    ∧ (∀ i data, s.store.busy = some (.tariff (.block a i data) true) →
      (∃ u, exec (.blockProgramDone true) s = .next u ∧ Unchanged [.flash, .busy] s u
        ∧ blockBytes (u.flash.area a).blocks i = data
        ∧ (∀ k, k ≠ i → blockBytes (u.flash.area a).blocks k = blockBytes (s.flash.area a).blocks k)
        ∧ u.flash.slots = s.flash.slots ∧ u.flash.area a.other = s.flash.area a.other)
      ∧ ∃ u, exec (.blockProgramDone false) s = .next u ∧ Unchanged [.busy] s u)
    ∧ (∀ c, s.store.busy = some (.tariff (.completion a c) true) →
      (∃ u, exec (.completionRecordDone true) s = .next u ∧ Unchanged [.flash, .busy] s u
        ∧ u.flash = s.flash.setArea a { s.flash.area a with completion := some c })
      ∧ ∃ u, exec (.completionRecordDone false) s = .next u ∧ Unchanged [.busy] s u)

/-! ## Run states (chapter 10) -/

/-- R164, R165, R170 to R173: what the supply, the reset pin, PFW and the end of holdover do in each run state, and that
a supply that comes up begins STARTING with the clock the backup supply kept. HALT holds no transfer, frame or reply at
the ports. The model's choices in it: what a record's program cut off by the supply leaves in its slot, a free value
among three, and that the rest of the state stands until the supply comes up, when working memory reads as reset
(assumption log 37); tariff NONE and EMPTY during STARTING (log 43); a frame being received is forgotten where STARTING or HALT begins (log 53); the cause of a pin held over from another restart
(log 46); a transfer whose select is low when STARTING begins (log 47); the row HOLDOVER_END alone ends a holdover (log
12); a PFW row sets the raw samples too, and one of a level already held does nothing else (log 10). A holdover that begins brings back a waiting context's sighting entry (log 38), stops a clearing motion as STOPPED
(log 30) and leaves the target of an abandoned erase open (log 5). -/
def Obligations.RunStatesMove : Prop :=
  ∀ s halted : State,
    halted = { s with
      ports := { a := { s.ports.a with transfer := none }, b := { s.ports.b with transfer := none } }
      station := { s.station with receive := .waitBreak, inbound := none, reply := none, direction := false } } →
    (s.store.supply = false → ∀ held, ∃ u, exec (.supplyUp held) s = .next u ∧ Started .powerOn (fun _ => none) s u
        ∧ u.time.counter = (if held then s.time.counter else 0) ∧ u.time.valid = (held && s.time.valid))
    ∧ (s.store.supply = true → s.store.busy = none →
        exec .supplyLoss s = .next { s with store := { s.store with supply := false } })
    ∧ (s.store.supply = true → ∀ r rest place, s.store.busy = some .record → s.journal.queue = r :: rest →
        place = (if s.journal.progSlot < 64 then s.journal.progPage * 64 + s.journal.progSlot
          else nextPage s.journal.pages 128 s.journal.progPage * 64) →
        ∃ u, exec .supplyLoss s = .next u ∧ Unchanged [.flash, .power, .busy, .draws] s u ∧ u.store.supply = false
          ∧ (u.flash.slot place = s.flash.slot place ∨ u.flash.slot place = some .torn
            ∨ u.flash.slot place = some (.record r))
          ∧ ∀ n, n ≠ place → u.flash.slot n = s.flash.slot n)
    ∧ (s.running = true → ∃ u, exec .resetPinAsserted s = .next u ∧ HoldoverBegun false .resetPin s u
        ∧ u.pins = { s.pins with reset := true })
    ∧ (s.running = false → exec .resetPinAsserted s
        = .next (State.flashKick { s with pins := { s.pins with reset := true } }))
    ∧ (s.store.supply = true → s.store.run = .starting → s.pins.reset = true →
        ∃ u, exec .resetPinReleased s = .next u
          ∧ Started .resetPin s.outlasting { s with pins := { s.pins with reset := false } } u
          ∧ u.time.counter = s.time.counter ∧ u.time.valid = s.time.valid)
    ∧ (s.store.run ≠ .starting → exec .resetPinReleased s = .next { s with pins := { s.pins with reset := false } })
    ∧ (s.running = true → s.store.pfw.accepted = false →
        ∃ u, exec .pfwAsserted s = .next u ∧ HoldoverBegun true .powerRestored s u ∧ u.store.pfw.accepted = true)
    ∧ (s.store.supply = true → s.store.run = .starting → s.store.pfw.accepted = false → s.store.busy = none →
        exec .pfwAsserted s = .next { halted with store := { s.store with
          run := .halt, cause := .powerRestored, pfw := { raw := true, prev := true, accepted := true } } })
    ∧ (s.store.supply = true → s.store.run = .holdover false → s.store.pfw.accepted = false →
        exec .pfwAsserted s = .next (State.flashKick { s with store := { s.store with
          run := .holdover true, cause := .powerRestored, pfw := { raw := true, prev := true, accepted := true } } }))
    ∧ (s.store.supply = true → s.store.run = .halt → s.store.pfw.accepted = true →
        ∃ u, exec .pfwDeasserted s = .next u ∧ Started .powerRestored s.outlasting s u ∧ u.time.counter = s.time.counter
          ∧ u.time.valid = s.time.valid)
    ∧ (s.store.supply = true → s.store.run ≠ .halt → exec .pfwDeasserted s
        = .next { s with store := { s.store with pfw := { raw := false, prev := false, accepted := false } } })
    ∧ (s.store.supply = true → s.journal.queue = [] → s.store.busy = none →
        (s.store.run = .holdover true → s.store.pfw.accepted = true →
          exec .holdoverEnd s = .next { halted with store := { s.store with run := .halt } })
        ∧ (s.store.run = .holdover true → s.store.pfw.accepted = false →
          ∃ u, exec .holdoverEnd s = .next u ∧ Started .powerRestored s.outlasting s u ∧ u.time.counter = s.time.counter)
        ∧ (s.store.run = .holdover false →
          ∃ u, exec .holdoverEnd s = .next u ∧ Started s.store.cause s.outlasting s u ∧ u.time.counter = s.time.counter))

/-- R133, R160, R166 to R169: the end of start-up sets up journal and tariff from flash, appends START as the record
after the highest sequence found, with the cause and the torn count, and enters RUN, where that record is the first
operation. The release of every page with a release marker is in the erase queue. No record held in a page without a
release marker is above the highest sequence or at or below the mark. The cursor is the lowest sequence of such a record;
with none it is START's sequence, the model's choice where a RELEASED page holds a record above the mark (assumption logs
41, 56). The drive leaves STOPPED with the command CLOSE as R120 and R121 give: CLOSED at once at the closed limit, else
CLOSING, and it waits while the flap zone is occupied. For want of a slot or a sequence START is dropped
and counted, and every page with a release marker is RELEASED. What the scan makes of an area without a readable record,
which area is the pending one with none marked, the load's facts of a tariff found there, and that a READY tariff whose
queued erase was not performed is found READY again, are the model's choices (assumption logs 31, 33, 51, 54). -/
def Obligations.StartUpEndsInRun : Prop :=
  ∀ s : State, s.store.supply = true → s.store.run = .starting → s.pins.reset = false → s.store.busy = none →
    NoWaits s → s.aisle.state = .outOfService → s.drive.clearing = false →
    ∃ u, exec .startupEnd s = .next u ∧ u.store.run = .run
      ∧ u.journal.reserved = 0 ∧ u.journal.mark = s.flash.scan.mark ∧ u.journal.cursor = s.flash.scan.cursor
      ∧ u.aisle.state = .outOfService ∧ u.flash = s.flash ∧ u.time.counter = s.time.counter
      ∧ u.au = s.au ∧ u.params = s.params ∧ u.sightings = s.sightings ∧ u.deny = s.deny
      ∧ (s.time.valid = false → u.station.attention.timeInvalid = true ∧ u.tariff = s.flash.reload)
      ∧ (s.time.valid = true → s.flash.reload.pending.state ≠ .ready →
        u.tariff = s.flash.reload ∧ u.time.day = some (opDay (s.time.counter / 60) u.rollover))
      ∧ (∀ n r, s.flash.slot n = some (.record r) → n / 64 ∉ s.flash.releaseMarkers → 1 ≤ r.sequence →
        r.sequence ≤ s.flash.highestFound ∧ u.journal.mark < r.sequence)
      ∧ ((∃ x ∈ s.flash.slots, x.1 / 64 ∉ s.flash.releaseMarkers ∧ ∃ r, x.2 = .record r
            ∧ r.sequence = u.journal.cursor)
        ∨ (∀ x ∈ s.flash.slots, x.1 / 64 ∈ s.flash.releaseMarkers ∨ x.2 = .torn)
          ∧ u.journal.cursor = s.flash.highestFound + 1)
      ∧ (∀ x ∈ s.flash.slots, ∀ r, x.2 = .record r → x.1 / 64 ∉ s.flash.releaseMarkers →
        u.journal.cursor ≤ r.sequence)
      ∧ (s.drive.flap = .stopped → s.drive.command = .toClose → s.drive.pause = none → s.drive.closeHold = false →
        u.drive.command = .toClose
          ∧ (s.monitor.zones.zF = true → u.drive.flap = .stopped ∧ u.drive.motion = s.drive.motion)
          ∧ (s.monitor.zones.zF = false → s.drive.closedLimit.accepted = true →
            u.drive.flap = .closed ∧ u.drive.motion = none)
          ∧ (s.monitor.zones.zF = false → s.drive.closedLimit.accepted = false →
            u.drive.flap = .closing ∧ ∃ m, u.drive.motion = some m ∧ m.release = false))
      ∧ (∀ p, p < 128 → p ∈ s.flash.releaseMarkers → p ∈ u.journal.eraseQueue)
      ∧ (1 ≤ s.flash.scan.free → s.flash.highestFound < 4294967295 →
        u.store.busy = some .record ∧ u.journal.lastSeq = s.flash.highestFound + 1
          ∧ u.journal.queue = [
              { sequence := s.flash.highestFound + 1, time := s.time.counter
                data := { kind := .start, reference := some (s.store.cause.code * 65536 + s.flash.tornCount) } }]
          ∧ u.journal.free = s.flash.scan.free - 1 ∧ u.journal.dropped = 0)
      ∧ (s.flash.scan.free = 0 ∨ 4294967295 ≤ s.flash.highestFound →
        u.journal.lastSeq = s.flash.highestFound ∧ u.journal.queue = [] ∧ u.journal.free = s.flash.scan.free
          ∧ u.journal.dropped = 1
          ∧ ∀ p, p < 128 → p ∈ s.flash.releaseMarkers → u.journal.pages[p]? = some .released)
end

