-- ==== Sys2Proof/Laws/Deny.lean ====
section
/-! SUPPORT. The deny list's shared operations: which entries each leaves, and that each keeps R77's form. -/

namespace Sys2Proof.Machine

-- One proof at a time: proofs elaborated side by side in one joined file ask for a thread each.
set_option Elab.async false

variable {l : DenyList} {c d : Nat}

/-! ## Lookup -/

theorem DenyList.find_none : l.find c = none ↔ ∀ e ∈ l.entries, e.card ≠ c := by simp [DenyList.find]

theorem DenyList.find_mem {e : DenyEntry} (h : l.find c = some e) : e ∈ l.entries ∧ e.card = c := by
  unfold DenyList.find at h
  exact ⟨List.mem_of_find?_eq_some h, by simpa using List.find?_some h⟩

/-! ## Placing an entry -/

@[simp] theorem mem_insertDeny {e x : DenyEntry} {es : List DenyEntry} : x ∈ insertDeny e es ↔ x = e ∨ x ∈ es := by
  induction es with
  | nil => simp [insertDeny]
  | cons y ys ih => simp only [insertDeny]; split <;> simp_all; tauto

@[simp] theorem length_insertDeny (e : DenyEntry) (es : List DenyEntry) : (insertDeny e es).length = es.length + 1 := by
  induction es with
  | nil => rfl
  | cons y ys ih => simp only [insertDeny]; split <;> simp_all

theorem insertDeny_sorted {e : DenyEntry} {es : List DenyEntry} (h : (es.map DenyEntry.card).Pairwise (· < ·))
    (n : ∀ x ∈ es, x.card ≠ e.card) : ((insertDeny e es).map DenyEntry.card).Pairwise (· < ·) := by
  induction es with
  | nil => simp [insertDeny]
  | cons y ys ih =>
    simp only [List.map_cons, List.pairwise_cons, List.mem_map, forall_exists_index, and_imp,
      forall_apply_eq_imp_iff₂] at h
    have hy := n y (by simp)
    simp only [insertDeny]
    split
    · rename_i lt
      simp only [List.map_cons, List.pairwise_cons, List.mem_cons, List.mem_map, forall_eq_or_imp,
        forall_exists_index, and_imp, forall_apply_eq_imp_iff₂]
      exact ⟨⟨lt, fun x hx => lt.trans (h.1 x hx)⟩, h.1, h.2⟩
    · rename_i ge
      refine List.pairwise_cons.2 ⟨fun a ha => ?_, ih h.2 fun x hx => n x (by simp [hx])⟩
      obtain ⟨x, hx, rfl⟩ := List.mem_map.1 ha
      rcases mem_insertDeny.1 hx with rfl | hx
      · omega
      · exact h.1 x hx

/-! ## The form is kept -/

theorem sublist_sorted {es fs : List DenyEntry} (h : es.Sublist fs) (k : (fs.map DenyEntry.card).Pairwise (· < ·)) :
    (es.map DenyEntry.card).Pairwise (· < ·) := k.sublist (h.map _)

theorem DenyList.WF.remove (h : l.WF) : (l.remove c).WF := by
  refine ⟨sublist_sorted List.filter_sublist h.1, (List.length_filter_le _ _).trans h.2.1,
    (List.length_filter_le _ _).trans h.2.2.1, h.2.2.2.1.filter _, fun d => ?_⟩
  have k := h.2.2.2.2 d
  simp only [DenyList.remove, List.mem_filter, k, bne_iff_ne, ne_eq]
  constructor
  · rintro ⟨⟨e, he, rfl, ho⟩, hc⟩; exact ⟨e, ⟨he, hc⟩, rfl, ho⟩
  · rintro ⟨e, ⟨he, hc⟩, rfl, ho⟩; exact ⟨⟨e, he, rfl, ho⟩, hc⟩

theorem DenyList.WF.removeOldest (h : l.WF) : l.removeOldest.WF := by
  unfold DenyList.removeOldest
  split
  · exact h
  · exact h.remove

theorem DenyList.WF.createStation {now r : Nat} (h : l.WF) (n : l.find c = none) (f : l.entries.length < 8192) :
    (l.createStation now c r).WF := by
  rw [DenyList.find_none] at n
  refine ⟨insertDeny_sorted h.1 n, by simpa [DenyList.createStation] using f, h.2.2.1, h.2.2.2.1, fun d => ?_⟩
  simp [DenyList.createStation, h.2.2.2.2 d]

theorem DenyList.WF.createAisle {now : Nat} (h : l.WF) (n : l.find c = none) (f : l.entries.length < 8192)
    (o : l.localOrder.length < 256) : (l.createAisle now c).WF := by
  rw [DenyList.find_none] at n
  have nc : c ∉ l.localOrder := fun hc => by
    obtain ⟨e, he, hec, -⟩ := (h.2.2.2.2 c).1 hc
    exact n e he hec
  refine ⟨insertDeny_sorted h.1 n, by simpa [DenyList.createAisle] using f,
    by simpa [DenyList.createAisle] using o, ?_, fun d => ?_⟩
  · simp only [DenyList.createAisle, List.nodup_append, List.nodup_singleton, List.mem_singleton]
    exact ⟨h.2.2.2.1, trivial, fun a ha b hb => by rintro rfl; exact nc (hb ▸ ha)⟩
  · simp only [DenyList.createAisle, List.mem_append, List.mem_singleton, h.2.2.2.2 d, mem_insertDeny]
    constructor
    · rintro (⟨e, he, hc⟩ | rfl)
      · exact ⟨e, .inr he, hc⟩
      · exact ⟨_, .inl rfl, rfl, rfl⟩
    · rintro ⟨e, rfl | he, hc⟩
      · exact .inr hc.1.symm
      · exact .inl ⟨e, he, hc⟩

theorem DenyList.WF.takeOver {r : Nat} (h : l.WF) : (l.takeOver c r).WF := by
  have hm : (l.takeOver c r).entries.map DenyEntry.card = l.entries.map DenyEntry.card := by
    simp only [DenyList.takeOver, List.map_map]
    exact List.map_congr_left fun e _ => by simp only [Function.comp]; split <;> rfl
  refine ⟨hm ▸ h.1, by simpa [DenyList.takeOver] using h.2.1,
    (List.length_filter_le _ _).trans h.2.2.1, h.2.2.2.1.filter _, fun d => ?_⟩
  simp only [DenyList.takeOver, List.mem_filter, h.2.2.2.2 d, bne_iff_ne, ne_eq, List.mem_map]
  constructor
  · rintro ⟨⟨e, he, rfl, ho⟩, hc⟩; exact ⟨e, ⟨e, he, by simp [hc]⟩, rfl, ho⟩
  · rintro ⟨_, ⟨e, he, rfl⟩, hd, ho⟩
    split at ho
    · cases ho
    · rename_i hc
      simp only [hc, if_false] at hd
      exact ⟨⟨e, he, hd, ho⟩, hd ▸ hc⟩

/-- Removing the oldest LOCAL entry makes one place in each count (R80). -/
theorem DenyList.WF.removeOldest_shorter (h : l.WF) (o : l.localOrder ≠ []) :
    l.removeOldest.entries.length < l.entries.length ∧ l.removeOldest.localOrder.length < l.localOrder.length := by
  obtain ⟨c, cs, hl⟩ := List.exists_cons_of_ne_nil o
  obtain ⟨e, he, hc, -⟩ := (h.2.2.2.2 c).1 (hl ▸ by simp)
  simp only [DenyList.removeOldest, hl, DenyList.remove]
  exact ⟨List.length_filter_lt_length_iff_exists.2 ⟨e, he, by simp [hc]⟩,
    List.length_filter_lt_length_iff_exists.2 ⟨c, by simp⟩⟩

theorem DenyList.removeOldest_find (n : l.find c = none) : l.removeOldest.find c = none := by
  rw [DenyList.find_none] at n ⊢
  unfold DenyList.removeOldest
  split
  · exact n
  · exact fun e he => n e (List.mem_of_mem_filter he)

theorem DenyList.WF.stationAdd {now : Nat} {i : DenyItem} (h : l.WF) : (l.stationAdd now i).2.WF := by
  have n : ¬(l.find i.card).isSome → l.find i.card = none := by simp
  unfold DenyList.stationAdd
  split_ifs with h1 h2 h3 h4
  · exact h
  · exact h.takeOver
  · exact h.createStation (n h2) h3
  · exact h
  · have k := h.removeOldest_shorter (by simpa using h4)
    exact h.removeOldest.createStation (DenyList.removeOldest_find (n h2)) (lt_of_lt_of_le k.1 h.2.1)

theorem DenyList.WF.aisleAdd {now : Nat} (h : l.WF) : (l.aisleAdd now c).2.WF := by
  have n : ¬(l.find c).isSome → l.find c = none := by simp
  have o (x : l.localOrder ≠ []) (y : ¬(l.find c).isSome) : (l.removeOldest.createAisle now c).WF := by
    have k := h.removeOldest_shorter x
    exact h.removeOldest.createAisle (DenyList.removeOldest_find (n y)) (lt_of_lt_of_le k.1 h.2.1)
      (lt_of_lt_of_le k.2 h.2.2.1)
  unfold DenyList.aisleAdd
  split_ifs with h1 h2 h3 h4
  · exact h
  · exact o (by rintro e; simp [e] at h2) h1
  · exact h.createAisle (n h1) h3 (by omega)
  · exact h
  · exact o (by simpa using h4) h1

end Sys2Proof.Machine
end

