-- ==== Sys2Proof/Laws/Frames.lean ====
section
/-! SUPPORT. What each shared operation leaves unchanged, said once: `f_frame` names the blocks `f` may change. -/

namespace Sys2Proof.Machine

-- One proof at a time: proofs elaborated side by side in one joined file ask for a thread each.
set_option Elab.async false

variable {l m : List Block} {s t u : State}

/-! ## Frames compose -/

theorem Unchanged.refl (l : List Block) (s : State) : Unchanged l s s := fun b _ => by cases b <;> rfl

theorem sameBlock_trans {b : Block} (h : sameBlock b s t) (k : sameBlock b t u) : sameBlock b s u := by
  cases b <;> exact Eq.trans k h

theorem Unchanged.trans (h : Unchanged l s t) (k : Unchanged l t u) : Unchanged l s u :=
  fun b hb => sameBlock_trans (h b hb) (k b hb)

theorem Unchanged.mono (h : Unchanged l s t) (k : l ⊆ m) : Unchanged m s t := fun b hb => h b fun hc => hb (k hc)

/-- Two events in a row, each with its own frame. -/
theorem Unchanged.andThen {n : List Block} (h : Unchanged l s t) (k : Unchanged m t u)
    (hl : l ⊆ n := by decide) (hm : m ⊆ n := by decide) : Unchanged n s u :=
  (h.mono hl).trans (k.mono hm)

theorem Unchanged.ite {c : Prop} [Decidable c] {t u : State} (h : Unchanged l s t) (k : Unchanged l s u) :
    Unchanged l s (if c then t else u) := by split <;> assumption

theorem Unchanged.of_eq (h : t = s) : Unchanged l s t := h ▸ Unchanged.refl l s

/-! ## Small updates -/

theorem attend_frame (s : State) (f : Attention → Attention) : Unchanged [.station] s (s.attend f) :=
  fun b hb => by cases b <;> first | rfl | exact (hb (by decide)).elim

theorem setCtx_frame (s : State) (e : End) (c : Ctx) : Unchanged [.au] s (s.setCtx e c) :=
  fun b hb => by cases b <;> first | rfl | exact (hb (by decide)).elim

theorem setLateCard_frame (s : State) (e : End) (c : Option Nat) : Unchanged [.au] s (s.setLateCard e c) :=
  fun b hb => by cases b <;> first | rfl | exact (hb (by decide)).elim

theorem setPort_frame (s : State) (e : End) (p : EndPort) : Unchanged [.ports] s (s.setPort e p) :=
  fun b hb => by cases b <;> first | rfl | exact (hb (by decide)).elim

theorem journal_frame (s : State) (j : Journal) : Unchanged [.journal] s { s with journal := j } :=
  fun b hb => by cases b <;> first | rfl | exact (hb (by decide)).elim

theorem sightings_frame (s : State) (l : List Sighting) : Unchanged [.sightings] s { s with sightings := l } :=
  fun b hb => by cases b <;> first | rfl | exact (hb (by decide)).elim

theorem deny_frame (s : State) (d : DenyList) : Unchanged [.deny] s { s with deny := d } :=
  fun b hb => by cases b <;> first | rfl | exact (hb (by decide)).elim

theorem aisle_frame (s : State) (a : Arbiter) : Unchanged [.aisle] s { s with aisle := a } :=
  fun b hb => by cases b <;> first | rfl | exact (hb (by decide)).elim

theorem drive_frame (s : State) (d : Drive) : Unchanged [.drive] s { s with drive := d } :=
  fun b hb => by cases b <;> first | rfl | exact (hb (by decide)).elim

theorem monitor_frame (s : State) (m : Monitor) : Unchanged [.monitor] s { s with monitor := m } :=
  fun b hb => by cases b <;> first | rfl | exact (hb (by decide)).elim

theorem emergency_frame (s : State) (q : Sequencer) : Unchanged [.emergency] s { s with emergency := q } :=
  fun b hb => by cases b <;> first | rfl | exact (hb (by decide)).elim

theorem tariff_frame (s : State) (x : TariffStore) : Unchanged [.tariff] s { s with tariff := x } :=
  fun b hb => by cases b <;> first | rfl | exact (hb (by decide)).elim

theorem time_frame (s : State) (x : TimeBase) : Unchanged [.time] s { s with time := x } :=
  fun b hb => by cases b <;> first | rfl | exact (hb (by decide)).elim

theorem params_frame (s : State) (p : Params) : Unchanged [.params] s { s with params := p } :=
  fun b hb => by cases b <;> first | rfl | exact (hb (by decide)).elim

theorem pins_frame (s : State) (p : Pins) : Unchanged [.pins] s { s with pins := p } :=
  fun b hb => by cases b <;> first | rfl | exact (hb (by decide)).elim

theorem station_frame (s : State) (p : StationPort) : Unchanged [.station] s { s with station := p } :=
  fun b hb => by cases b <;> first | rfl | exact (hb (by decide)).elim

theorem flash_frame (s : State) (f : Flash) : Unchanged [.flash] s { s with flash := f } :=
  fun b hb => by cases b <;> first | rfl | exact (hb (by decide)).elim

theorem busy_frame (s : State) (o : Option FlashOp) :
    Unchanged [.busy] s { s with store := { s.store with busy := o } } :=
  fun b hb => by cases b <;> first | rfl | exact (hb (by decide)).elim

theorem draw_frame (s : State) : Unchanged [.draws] s s.draw.2 :=
  fun b hb => by cases b <;> first | rfl | exact (hb (by decide)).elim

/-! ## Journal -/

theorem noteNearFull_frame (s : State) : Unchanged [.station] s s.noteNearFull :=
  (attend_frame s _).ite (.refl _ s)

theorem releasePages_frame (s : State) : Unchanged [.journal] s s.releasePages := journal_frame s _

theorem pushRecord_frame (s : State) (d : RecordData) : Unchanged [.journal, .station] s (s.pushRecord d) :=
  Unchanged.andThen
    (Unchanged.ite ((journal_frame s _).trans (releasePages_frame _)) (journal_frame s _)) (noteNearFull_frame _)

theorem pushDropped_frame (s : State) : Unchanged [.journal, .station] s s.pushDropped :=
  (pushRecord_frame s _).andThen (journal_frame _ _)

theorem append_frame (s : State) (d : RecordData) : Unchanged [.journal, .station] s (s.append d) := by
  have h := (journal_frame s s.journal.drop).mono (m := [.journal, .station]) (by decide)
  exact ((pushRecord_frame s d).ite h).ite (((pushDropped_frame s).trans (pushRecord_frame _ d)).ite h)

theorem appendReserved_frame (s : State) (d : RecordData) : Unchanged [.journal, .station] s (s.appendReserved d) :=
  (((pushDropped_frame s).ite (.refl _ s)).trans ((Unchanged.refl _ _).ite (pushRecord_frame _ d))).andThen
    (journal_frame _ _)

theorem releaseTo_frame (s : State) (n : Nat) : Unchanged [.journal] s (s.releaseTo n) :=
  ((journal_frame s _).trans (releasePages_frame _)).ite (.refl _ s)

/-! ## Sightings, ports, drive -/

theorem setOutcome_frame (s : State) (c : Nat) (o : Sighted) : Unchanged [.sightings] s (s.setOutcome c o) :=
  sightings_frame s _

theorem respond_frame (s : State) (e : End) (r : Response) : Unchanged [.ports] s (s.respond e r) := setPort_frame s e _

theorem postLate_frame (s : State) (e : End) (d : Decision) : Unchanged [.ports] s (s.postLate e d) := setPort_frame s e _

theorem judgeService_frame (s t : State) : Unchanged [.ports] t (State.judgeService s t) :=
  (Unchanged.refl _ t).ite fun b hb => by cases b <;> first | rfl | exact (hb (by decide)).elim

theorem command_frame (s : State) (c : FlapCmd) : Unchanged [.drive] s (s.command c) := drive_frame s _

theorem faultCleared_frame (s : State) : Unchanged [.aisle, .drive] s s.faultCleared :=
  Unchanged.ite
    (Unchanged.ite ((aisle_frame s _).andThen (command_frame _ _))
      (Unchanged.ite ((aisle_frame s _).andThen (command_frame _ _)) ((aisle_frame s _).mono (by decide))))
    (.refl _ s)

/-- The blocks a motion that comes to rest may change. -/
abbrev restBlocks : List Block := [.aisle, .drive, .emergency]

theorem restAt_frame (s : State) (x : Limit) : Unchanged restBlocks s (s.restAt x) := by
  cases x
  · exact Unchanged.ite (fun b hb => by cases b <;> first | rfl | exact (hb (by decide)).elim)
      ((drive_frame s _).mono (by decide))
  · exact Unchanged.ite ((drive_frame s _).andThen (faultCleared_frame _)) ((drive_frame s _).mono (by decide))

theorem motionDone_frame (s : State) (x : Limit) : Unchanged restBlocks s (s.motionDone x) :=
  (drive_frame s _).andThen (restAt_frame _ x)

theorem beginMotion_frame (s : State) (x : Limit) (r : Bool) : Unchanged restBlocks s (s.beginMotion x r) := by
  cases x <;>
    exact Unchanged.ite ((drive_frame s _).andThen (motionDone_frame _ _)) ((drive_frame s _).mono (by decide))

theorem closeIfAllowed_frame (s : State) : Unchanged restBlocks s s.closeIfAllowed :=
  (beginMotion_frame s _ _).ite (.refl _ s)

theorem drivePass_frame (s : State) : Unchanged restBlocks s s.drivePass := by
  have r := Unchanged.refl restBlocks s
  have b := beginMotion_frame s .openLimit false
  have c := closeIfAllowed_frame s
  unfold State.drivePass
  split
  · exact b.ite r
  · exact r.ite (c.ite r)
  · exact c.ite r
  · exact b.ite r
  · exact r.ite (((drive_frame s _).andThen (beginMotion_frame _ _ _)).ite c)
  · exact c.ite r
  · exact r

theorem reverse_frame (s : State) : Unchanged restBlocks s s.reverse := (drive_frame s _).andThen (beginMotion_frame _ _ _)

theorem driveZone_frame (s : State) (o : Bool) : Unchanged restBlocks s (s.driveZone o) := by
  have d := fun x => (drive_frame s x).mono (m := restBlocks) (by decide)
  exact Unchanged.ite (Unchanged.ite ((d _).trans (reverse_frame _)) (d _)) ((d _).ite (.refl _ s))

theorem beginRelease_frame (s : State) : Unchanged restBlocks s s.beginRelease := by
  have d := fun x => (drive_frame s x).mono (m := restBlocks) (by decide)
  exact (d _).ite ((d _).trans (beginMotion_frame _ _ _))

theorem endRelease_frame (s : State) : Unchanged [.drive] s s.endRelease := drive_frame s _

theorem showLamps_frame (s : State) : Unchanged [.drive] s s.showLamps := drive_frame s _

/-! ## Claims and credits -/

theorem takeReservation_frame (s : State) (e : End) : Unchanged [.aisle] s (s.takeReservation e) := aisle_frame s _

theorem releaseReservation_frame (s : State) : Unchanged [.aisle] s s.releaseReservation := aisle_frame s _

theorem setWaiting_frame (s : State) (e : End) (w : Bool) : Unchanged [.aisle] s (s.setWaiting e w) := aisle_frame s _

theorem convert_frame (s : State) (e : End) (x : Txn) :
    Unchanged [.aisle, .journal, .station] s (s.convert e x) := by
  unfold State.convert
  split
  · exact (aisle_frame s _).mono (by decide)
  · exact (releaseReservation_frame s).mono (by decide)
  · exact (releaseReservation_frame s).andThen (append_frame _ _)

/-- The blocks a grant that completes, or a wait that ends, may change. -/
abbrev grantBlocks : List Block := [.au, .ports, .station, .sightings, .aisle, .journal]

theorem completeNoWrite_frame (s : State) (e : End) (x : Txn) : Unchanged grantBlocks s (s.completeNoWrite e x) :=
  ((appendReserved_frame s _).andThen (convert_frame _ _ _) (n := grantBlocks)).andThen
    ((setOutcome_frame _ _ _).andThen (setCtx_frame _ _ _) (n := grantBlocks))

theorem enterGrant_frame (s : State) (e : End) (x : Txn) : Unchanged grantBlocks s (s.enterGrant e x) :=
  ((setCtx_frame s _ _).mono (by decide)).ite (completeNoWrite_frame s e x)

theorem grantWait_frame (s : State) (e : End) : Unchanged grantBlocks s (s.grantWait e) := by
  unfold State.grantWait
  split
  · exact (((setWaiting_frame s _ _).trans (takeReservation_frame _ _)).andThen (enterGrant_frame _ _ _)
      (n := grantBlocks)).andThen (postLate_frame _ _ _)
  · exact .refl _ _
  · exact .refl _ _

theorem withdraw_frame (s : State) (e : End) (x : Txn) : Unchanged grantBlocks s (s.withdraw e x) :=
  Unchanged.andThen (l := grantBlocks)
    (Unchanged.andThen (l := grantBlocks) (fun b hb => by cases b <;> first | rfl | exact (hb (by decide)).elim)
      (setWaiting_frame _ _ _))
    (setCtx_frame _ _ _)

theorem refuseWait_frame (s : State) (e : End) (r : Reason) (c : Option SubCause) :
    Unchanged grantBlocks s (s.refuseWait e r c) := by
  unfold State.refuseWait
  split
  · exact (withdraw_frame s _ _).andThen (postLate_frame _ _ _)
  · exact .refl _ _
  · exact .refl _ _

theorem refuseWaits_frame (s : State) (r : Reason) (c : Option SubCause) :
    Unchanged grantBlocks s (s.refuseWaits r c) :=
  ((refuseWait_frame s _ _ _).ite (.refl _ s)).trans ((refuseWait_frame _ _ _ _).ite (.refl _ _))

theorem insertReaches_frame (s : State) (c r : Nat) (e : End) : Unchanged grantBlocks s (s.insertReaches c r e) := by
  unfold State.insertReaches
  split
  · exact .refl _ _
  · exact ((setCtx_frame s _ _).mono (by decide)).ite (.refl _ s)
  · exact ((refuseWait_frame s _ _ _).andThen (append_frame _ _)).ite (.refl _ s)

theorem denyInsert_frame (s : State) (c r : Nat) : Unchanged grantBlocks s (s.denyInsert c r) :=
  (insertReaches_frame s c r .a).trans (insertReaches_frame _ c r .b)

theorem unconfirm_frame (s : State) (e : End) (x : Txn) : Unchanged grantBlocks s (s.unconfirm e x) :=
  ((appendReserved_frame s _).andThen (setOutcome_frame _ _ _) (n := grantBlocks)).andThen
    ((releaseReservation_frame _).andThen ((setLateCard_frame _ _ _).trans (setCtx_frame _ _ _)) (n := grantBlocks))

theorem loseCredit_frame (x : Bool) (o : Sighted) (s : State) (c : Credit) :
    Unchanged grantBlocks s (State.loseCredit x o s c) :=
  Unchanged.ite ((setOutcome_frame s _ _).andThen (append_frame _ _)) ((setOutcome_frame s _ _).mono (by decide))

theorem loseEach_frame (x : Bool) (o : Sighted) (cs : List Credit) (s : State) :
    Unchanged grantBlocks s (cs.foldl (State.loseCredit x o) s) := by
  induction cs generalizing s with
  | nil => exact .refl _ s
  | cons c cs ih => exact (loseCredit_frame x o s c).trans (ih _)

theorem loseCredits_frame (s : State) (x : Bool) (o : Sighted) : Unchanged grantBlocks s (s.loseCredits x o) :=
  (loseEach_frame x o _ s).andThen (aisle_frame _ _)

theorem popCredit_frame (s : State) (c : Credit) (cs : List Credit) (o : Sighted) :
    Unchanged [.aisle, .sightings] s (s.popCredit c cs o) := (aisle_frame s _).andThen (setOutcome_frame _ _ _)

/-! ## The arbiter's tests -/

/-- The blocks the arbiter's tests and the drive's passes may change. -/
abbrev settleBlocks : List Block := [.au, .ports, .station, .sightings, .aisle, .drive, .emergency, .journal]

theorem vacate_frame (s : State) : Unchanged [.aisle, .drive] s s.vacate :=
  Unchanged.ite ((aisle_frame s _).andThen (command_frame _ _)) ((aisle_frame s _).andThen (command_frame _ _))

theorem endViolation_frame (s : State) : Unchanged [.aisle, .drive] s s.endViolation :=
  Unchanged.ite
    (Unchanged.ite ((aisle_frame s _).andThen (vacate_frame _))
      (((aisle_frame s _).trans (aisle_frame _ _)).andThen (command_frame _ _)))
    (.refl _ s)

theorem endService_frame (s : State) : Unchanged [.aisle, .drive] s s.endService := (vacate_frame s).ite (.refl _ s)

theorem freePoint_frame (s : State) : Unchanged grantBlocks s s.freePoint := by
  unfold State.freePoint
  split
  · split
    · exact grantWait_frame _ _
    · exact .refl _ _
  · exact .refl _ _

theorem ownerGrant_frame (s : State) : Unchanged grantBlocks s s.ownerGrant := by
  unfold State.ownerGrant
  split
  · exact .refl _ _
  · exact (grantWait_frame _ _).ite (.refl _ _)

theorem commandFlaps_frame (s : State) : Unchanged [.drive] s s.commandFlaps :=
  Unchanged.ite ((command_frame s _).ite (.refl _ s)) ((command_frame s _).ite (.refl _ s))

theorem runTimers_frame (s : State) : Unchanged [.aisle] s s.runTimers := aisle_frame s _

theorem arbiterPass_frame (s : State) : Unchanged settleBlocks s s.arbiterPass :=
  ((((endViolation_frame s).trans (endService_frame _)).andThen ((freePoint_frame _).trans (ownerGrant_frame _))
    (n := settleBlocks)).andThen (commandFlaps_frame _) (n := settleBlocks)).andThen (runTimers_frame _)

theorem settlePass_frame (s : State) : Unchanged settleBlocks s s.settlePass :=
  (drivePass_frame s).andThen (arbiterPass_frame _)

theorem settle_frame (s : State) : Unchanged settleBlocks s s.settle :=
  Unchanged.ite
    ((((settlePass_frame s).trans (settlePass_frame _)).trans (settlePass_frame _)).andThen (showLamps_frame _))
    (.refl _ s)

theorem arbiterFault_frame (s : State) : Unchanged grantBlocks s s.arbiterFault :=
  (Unchanged.refl _ s).ite
    (((aisle_frame s _).andThen (loseCredits_frame _ _ _) (n := grantBlocks)).trans (refuseWaits_frame _ _ _))

theorem enterFault_frame (s : State) (c : FaultCause) : Unchanged settleBlocks s (s.enterFault c) :=
  (((drive_frame s _).andThen (append_frame _ _) (n := settleBlocks)).andThen (attend_frame _ _)
    (n := settleBlocks)).andThen (arbiterFault_frame _)

theorem violate_frame (s : State) (k : RecordKind) (d : Dir) :
    Unchanged [.aisle, .drive, .journal, .station] s (s.violate k d) := by
  have h (a : Arbiter) (d : Drive) : Unchanged [.aisle, .drive] s { s with aisle := a, drive := d } :=
    fun b hb => by cases b <;> first | rfl | exact (hb (by decide)).elim
  unfold State.violate
  exact Unchanged.andThen (l := [.aisle, .drive]) ((h _ _).andThen (command_frame _ _)) (append_frame _ _)

/-- The blocks a crossing may change. -/
abbrev crossBlocks : List Block := [.aisle, .drive, .journal, .station, .sightings]

theorem crossOwned_frame (s : State) (d : Dir) : Unchanged crossBlocks s (State.cross.owned s d) := by
  have v := fun k => (violate_frame s k d).mono (m := crossBlocks) (by decide)
  unfold State.cross.owned
  split
  · exact v _
  · refine Unchanged.ite ?_ (v _)
    split
    · exact (popCredit_frame s _ _ _).mono (by decide)
    · exact v _

theorem cross_frame (s : State) (d : Dir) : Unchanged crossBlocks s (s.cross d) := by
  unfold State.cross
  split
  · exact .refl _ _
  · split
    · exact ((popCredit_frame s _ _ _).mono (by decide)).ite (.refl _ _)
    · exact .refl _ _
  · exact (violate_frame s _ d).mono (by decide)
  · exact crossOwned_frame s d
  · exact crossOwned_frame s d

/-! ## Closing an event -/

theorem flashKick_frame (s : State) : Unchanged [.busy] s s.flashKick := (busy_frame s _).ite (.refl _ s)

theorem conclude_frame (s t : State) : Unchanged [.ports, .busy] t (State.conclude s t) :=
  (flashKick_frame t).andThen (judgeService_frame s _)

/-- An event of RUN changes what its own effect does, a port's SERVICE_CHANGED and the flash store's choice. -/
theorem inRun_frame (s : State) (f : State → State) (h : Unchanged l s (f s))
    (hp : Block.ports ∈ l) (hb : Block.busy ∈ l) : Unchanged l s (s.inRun f) := by
  refine Unchanged.ite (h.trans ((conclude_frame s _).mono ?_)) (.refl _ s)
  intro b hx
  simp only [List.mem_cons, List.not_mem_nil, or_false] at hx
  rcases hx with rfl | rfl <;> assumption

end Sys2Proof.Machine
end

