-- ==== Sys2Proof/Laws/Lists.lean ====
section
/-! SUPPORT. The sighting table's, the journal's and flash's shared operations: what each leaves, and that each keeps its
form. -/

namespace Sys2Proof.Machine

/-! ## Sightings (R59, R62, R71) -/

/-- No two entries of one card number. -/
def OneEach (l : List Sighting) : Prop := (l.map Sighting.card).Nodup

theorem OneEach.sublist {l m : List Sighting} (h : OneEach l) (k : m.Sublist l) : OneEach m :=
  List.Pairwise.sublist (k.map _) h

theorem OneEach.drop {l : List Sighting} (h : OneEach l) (c : Nat) : OneEach (dropSighting l c) :=
  h.sublist List.filter_sublist

theorem card_of_mem_drop {l : List Sighting} {c : Nat} {e : Sighting} (h : e ∈ dropSighting l c) : e.card ≠ c := by
  simpa [dropSighting] using (List.mem_filter.1 h).2

theorem OneEach.consDrop {l : List Sighting} (h : OneEach l) (e : Sighting) : OneEach (e :: dropSighting l e.card) := by
  refine List.nodup_cons.2 ⟨fun hm => ?_, h.drop _⟩
  obtain ⟨x, hx, hc⟩ := List.mem_map.1 hm
  exact card_of_mem_drop hx hc

theorem dropOldest_sublist (l : List Sighting) : (dropOldest l).Sublist l := by
  induction l with
  | nil => exact List.Sublist.refl _
  | cons e es ih =>
    simp only [dropOldest]
    split
    · exact ih.cons_cons e
    · split
      · exact List.Sublist.refl _
      · exact List.sublist_cons_self e es

theorem findSighting_none {l : List Sighting} {c : Nat} (h : findSighting l c = none) : ∀ e ∈ l, e.card ≠ c := by
  simpa [findSighting] using h

theorem findSighting_card {l : List Sighting} {c : Nat} {e : Sighting} (h : findSighting l c = some e) : e.card = c := by
  simpa using List.find?_some h

theorem OneEach.record {l : List Sighting} (h : OneEach l) (e : Sighting) : OneEach (recordSighting l e) := by
  unfold recordSighting
  split
  · exact h.consDrop e
  · rename_i hn
    have k : OneEach (if 512 ≤ l.length then dropOldest l else l) ∧
        (if 512 ≤ l.length then dropOldest l else l).Sublist l := by
      split
      · exact ⟨h.sublist (dropOldest_sublist l), dropOldest_sublist l⟩
      · exact ⟨h, List.Sublist.refl l⟩
    refine List.nodup_cons.2 ⟨fun hm => ?_, k.1⟩
    obtain ⟨x, hx, hc⟩ := List.mem_map.1 hm
    exact findSighting_none hn x (k.2.subset hx) hc

theorem OneEach.restore {l : List Sighting} (h : OneEach l) {c : Nat} {p : Option Sighting}
    (k : ∀ e, p = some e → e.card = c) : OneEach (restoreSighting l c p) := by
  unfold restoreSighting
  split
  · exact k _ rfl ▸ h.consDrop _
  · exact h.drop c

theorem settle_cards (o : Sighted) (c : Nat) (l : List Sighting) :
    (l.map fun e => if e.card = c then { e with outcome := o } else e).map Sighting.card = l.map Sighting.card := by
  rw [List.map_map]
  exact List.map_congr_left fun e _ => by simp only [Function.comp]; split <;> rfl

theorem OneEach.settle {l : List Sighting} (h : OneEach l) (r n c : Nat) (o : Sighted) :
    OneEach (settleSighting r n c o l) := by
  have k : OneEach (l.map fun e => if e.card = c then { e with outcome := o } else e) := by
    unfold OneEach
    rwa [settle_cards]
  exact k.sublist List.filter_sublist

theorem OneEach.purge {l : List Sighting} (h : OneEach l) (r n : Nat) : OneEach (purgeSightings r n l) :=
  h.sublist List.filter_sublist

/-! ## Journal (R149) -/

variable {s : State}

@[simp] theorem assignSlot_lastSeq (j : Journal) : j.assignSlot.2.lastSeq = j.lastSeq := by
  unfold Journal.assignSlot; split <;> rfl

@[simp] theorem assignSlot_queue (j : Journal) : j.assignSlot.2.queue = j.queue := by
  unfold Journal.assignSlot; split <;> rfl

@[simp] theorem assignSlot_reserved (j : Journal) : j.assignSlot.2.reserved = j.reserved := by
  unfold Journal.assignSlot; split <;> rfl

@[simp] theorem assignSlot_dropped (j : Journal) : j.assignSlot.2.dropped = j.dropped := by
  unfold Journal.assignSlot; split <;> rfl

@[simp] theorem assignSlot_free (j : Journal) : j.assignSlot.2.free = j.free - 1 := by
  unfold Journal.assignSlot; split <;> rfl

/-- R166: a page whose erase failed has its release marker; the others' stand. -/
theorem erasedBadly_markers (f : Flash) (p q : Nat) (kept : Bool) :
    q ∈ (f.erasedBadly p kept).releaseMarkers ↔ q = p ∨ q ∈ f.releaseMarkers := by
  unfold Flash.erasedBadly Flash.markPage Flash.erasePage
  cases kept <;> by_cases h : q = p <;> simp [h]

theorem erasedBadly_slots (f : Flash) (p : Nat) (kept : Bool) (x : Nat × Slot) (h : slotPage x.1 ≠ p) :
    x ∈ (f.erasedBadly p kept).slots ↔ x ∈ f.slots := by
  unfold Flash.erasedBadly Flash.markPage Flash.erasePage
  cases kept <;> simp [h]

/-- The record an append writes. -/
def State.newRecord (s : State) (d : RecordData) : Record :=
  { sequence := s.journal.lastSeq + 1, time := s.time.counter, data := d }

theorem noteNearFull_journal (s : State) : s.noteNearFull.journal = s.journal := by
  unfold State.noteNearFull; split <;> rfl

/-- An append that finds its room takes the next sequence, one free slot and the tail of the write queue, and leaves the
reserved count and the dropped count alone. -/
theorem pushRecord_journal (s : State) (d : RecordData) :
    (s.pushRecord d).journal.lastSeq = s.journal.lastSeq + 1
      ∧ (s.pushRecord d).journal.queue = s.journal.queue ++ [s.newRecord d]
      ∧ (s.pushRecord d).journal.reserved = s.journal.reserved
      ∧ (s.pushRecord d).journal.dropped = s.journal.dropped
      ∧ (s.pushRecord d).journal.free = s.journal.free - 1 := by
  unfold State.pushRecord
  simp only [noteNearFull_journal]
  split <;> simp [State.releasePages, State.newRecord]

theorem Journal.Rising.push {j k : Journal} {r : Record} (h : j.Rising) (q : k.queue = j.queue ++ [r])
    (l : k.lastSeq = j.lastSeq + 1) (x : r.sequence = j.lastSeq + 1) : k.Rising := by
  refine ⟨?_, fun y hy => ?_⟩
  · rw [q, List.map_append, List.pairwise_append]
    refine ⟨h.1, List.pairwise_singleton _ _, fun a ha b hb => ?_⟩
    obtain ⟨y, hy, rfl⟩ := List.mem_map.1 ha
    simp only [List.map_cons, List.map_nil, List.mem_singleton] at hb
    have := h.2 y hy
    omega
  · rw [q, List.mem_append, List.mem_singleton] at hy
    rcases hy with hy | rfl
    · have := h.2 y hy
      omega
    · omega

theorem Journal.Rising.of_eq {j k : Journal} (h : j.Rising) (q : k.queue = j.queue) (l : k.lastSeq = j.lastSeq) :
    k.Rising := by unfold Journal.Rising; rwa [q, l]

theorem Journal.Rising.tail {j k : Journal} {r : Record} (h : j.Rising) (q : j.queue = r :: k.queue)
    (l : k.lastSeq = j.lastSeq) : k.Rising := by
  have h1 := h.1
  have h2 := h.2
  rw [q] at h1 h2
  exact ⟨(List.pairwise_cons.1 h1).2, fun y hy => l ▸ h2 y (by simp [hy])⟩

theorem Journal.Rising.pushRecord (h : s.journal.Rising) (d : RecordData) : (s.pushRecord d).journal.Rising :=
  h.push (pushRecord_journal s d).2.1 (pushRecord_journal s d).1 rfl

theorem Journal.Rising.append (h : s.journal.Rising) (d : RecordData) : (s.append d).journal.Rising := by
  have d' : s.journal.drop.Rising := h.of_eq rfl rfl
  unfold State.append
  split
  · split
    · exact h.pushRecord d
    · exact d'
  · split
    · exact Journal.Rising.pushRecord (s := s.pushDropped) ((h.pushRecord _).of_eq rfl rfl) d
    · exact d'

/-! ## Flash's slots -/

/-- The slots a program leaves: the one programmed, and the others as they were. -/
theorem mem_putSlot {n : Nat} {x : Slot} {l : List (Nat × Slot)} {y : Nat × Slot}
    (h : (l.map Prod.fst).Pairwise (· < ·)) : y ∈ putSlot n x l ↔ y = (n, x) ∨ (y ∈ l ∧ y.1 ≠ n) := by
  induction l with
  | nil => simp [putSlot]
  | cons z zs ih =>
    have hz := List.pairwise_cons.1 (by simpa using h : (z.1 :: zs.map Prod.fst).Pairwise (· < ·))
    have gt : ∀ w ∈ zs, z.1 < w.1 := fun w hw => hz.1 w.1 (List.mem_map_of_mem hw)
    simp only [putSlot]
    split
    · rename_i lt
      simp only [List.mem_cons]
      constructor
      · rintro (rfl | rfl | hy)
        · exact .inl rfl
        · exact .inr ⟨.inl rfl, by omega⟩
        · exact .inr ⟨.inr hy, by have := gt y hy; omega⟩
      · rintro (rfl | ⟨rfl | hy, -⟩)
        · exact .inl rfl
        · exact .inr (.inl rfl)
        · exact .inr (.inr hy)
    · split
      · rename_i e
        simp only [List.mem_cons]
        constructor
        · rintro (rfl | hy)
          · exact .inl rfl
          · exact .inr ⟨.inr hy, by have := gt y hy; omega⟩
        · rintro (rfl | ⟨rfl | hy, k⟩)
          · exact .inl rfl
          · exact absurd e.symm k
          · exact .inr hy
      · rename_i ne
        simp only [List.mem_cons, ih hz.2]
        constructor
        · rintro (rfl | rfl | ⟨hy, k⟩)
          · exact .inr ⟨.inl rfl, by omega⟩
          · exact .inl rfl
          · exact .inr ⟨.inr hy, k⟩
        · rintro (rfl | ⟨rfl | hy, k⟩)
          · exact .inr (.inl rfl)
          · exact .inl rfl
          · exact .inr (.inr ⟨hy, k⟩)

theorem putSlot_sorted {n : Nat} {x : Slot} {l : List (Nat × Slot)} (h : (l.map Prod.fst).Pairwise (· < ·)) :
    ((putSlot n x l).map Prod.fst).Pairwise (· < ·) := by
  induction l with
  | nil => simp [putSlot]
  | cons z zs ih =>
    have hz := List.pairwise_cons.1 (by simpa using h : (z.1 :: zs.map Prod.fst).Pairwise (· < ·))
    have gt : ∀ w ∈ zs, z.1 < w.1 := fun w hw => hz.1 w.1 (List.mem_map_of_mem hw)
    simp only [putSlot]
    split
    · rename_i lt
      refine List.pairwise_cons.2 ⟨fun a ha => ?_, h⟩
      simp only [List.map_cons, List.mem_cons] at ha
      rcases ha with rfl | ha
      · exact lt
      · exact lt.trans (hz.1 a ha)
    · split
      · rename_i e
        exact List.pairwise_cons.2 ⟨fun a ha => e ▸ hz.1 a ha, hz.2⟩
      · refine List.pairwise_cons.2 ⟨fun a ha => ?_, ih hz.2⟩
        obtain ⟨w, hw, rfl⟩ := List.mem_map.1 ha
        rcases (mem_putSlot hz.2).1 hw with rfl | ⟨hw, -⟩
        · simp only; omega
        · exact gt w hw

theorem erasePage_canonical {f : Flash} (h : f.Canonical) (p : Nat) : (f.erasePage p).Canonical :=
  List.Pairwise.sublist (List.filter_sublist.map _) h

theorem putSlot_canonical {f : Flash} (h : f.Canonical) (n : Nat) (x : Slot) :
    Flash.Canonical { f with slots := putSlot n x f.slots } := putSlot_sorted h

end Sys2Proof.Machine
end

