-- ==== Sys2Proof/Laws/State.lean ====
section
/-! SUPPORT. What each small update of State leaves as it was, one lemma for each field it does not touch, and what it puts
in the field it does. -/

namespace Sys2Proof.Machine

/-! ## A value for each end -/

@[simp] theorem PerEnd.get_a {α : Type} (x y : α) : ({ a := x, b := y } : PerEnd α).get .a = x := rfl

@[simp] theorem PerEnd.get_b {α : Type} (x y : α) : ({ a := x, b := y } : PerEnd α).get .b = y := rfl

@[simp] theorem PerEnd.get_set_self {α : Type} (p : PerEnd α) (e : End) (x : α) : (p.set e x).get e = x := by
  cases e <;> rfl

@[simp] theorem PerEnd.get_set_other {α : Type} (p : PerEnd α) (e : End) (x : α) : (p.set e x).get e.other = p.get e.other := by
  cases e <;> rfl

@[simp] theorem PerEnd.set_set {α : Type} (p : PerEnd α) (e : End) (x y : α) : (p.set e x).set e y = p.set e y := by
  cases e <;> rfl

@[simp] theorem PerEnd.set_get {α : Type} (p : PerEnd α) (e : End) : p.set e (p.get e) = p := by cases e <;> rfl

@[simp] theorem End.other_other (e : End) : e.other.other = e := by cases e <;> rfl

@[simp] theorem Dir.source_endDir (e : End) : (endDir e).source = e := by cases e <;> rfl

/-! ## What an update puts in its own field -/

@[simp] theorem State.ctx_setCtx (s : State) (e : End) (c : Ctx) : (s.setCtx e c).ctx e = c := by cases e <;> rfl

@[simp] theorem State.ctx_setCtx_other (s : State) (e : End) (c : Ctx) : (s.setCtx e c).ctx e.other = s.ctx e.other := by
  cases e <;> rfl

@[simp] theorem State.port_setPort (s : State) (e : End) (p : EndPort) : (s.setPort e p).port e = p := by cases e <;> rfl

@[simp] theorem State.port_setPort_other (s : State) (e : End) (p : EndPort) :
    (s.setPort e p).port e.other = s.port e.other := by cases e <;> rfl

@[simp] theorem State.ctx_setLateCard (s : State) (e x : End) (c : Option Nat) : (s.setLateCard e c).ctx x = s.ctx x := rfl

@[simp] theorem State.drive_command (s : State) (c : FlapCmd) : (s.command c).drive = s.drive.take c := rfl

@[simp] theorem State.pending_withPending_self (s : State) (q : List Instr) : (s.withPending q).pending = q := rfl

@[simp] theorem State.withPending_withPending (s : State) (q r : List Instr) :
    (s.withPending q).withPending r = s.withPending r := rfl

/-! ## attend -/

@[simp] theorem State.pending_attend (s : State) (f : Attention → Attention) : (s.attend f).pending = s.pending := rfl

@[simp] theorem State.pins_attend (s : State) (f : Attention → Attention) : (s.attend f).pins = s.pins := rfl

@[simp] theorem State.params_attend (s : State) (f : Attention → Attention) : (s.attend f).params = s.params := rfl

@[simp] theorem State.au_attend (s : State) (f : Attention → Attention) : (s.attend f).au = s.au := rfl

@[simp] theorem State.ports_attend (s : State) (f : Attention → Attention) : (s.attend f).ports = s.ports := rfl

@[simp] theorem State.time_attend (s : State) (f : Attention → Attention) : (s.attend f).time = s.time := rfl

@[simp] theorem State.tariff_attend (s : State) (f : Attention → Attention) : (s.attend f).tariff = s.tariff := rfl

@[simp] theorem State.sightings_attend (s : State) (f : Attention → Attention) : (s.attend f).sightings = s.sightings := rfl

@[simp] theorem State.deny_attend (s : State) (f : Attention → Attention) : (s.attend f).deny = s.deny := rfl

@[simp] theorem State.aisle_attend (s : State) (f : Attention → Attention) : (s.attend f).aisle = s.aisle := rfl

@[simp] theorem State.monitor_attend (s : State) (f : Attention → Attention) : (s.attend f).monitor = s.monitor := rfl

@[simp] theorem State.drive_attend (s : State) (f : Attention → Attention) : (s.attend f).drive = s.drive := rfl

@[simp] theorem State.emergency_attend (s : State) (f : Attention → Attention) : (s.attend f).emergency = s.emergency := rfl

@[simp] theorem State.journal_attend (s : State) (f : Attention → Attention) : (s.attend f).journal = s.journal := rfl

@[simp] theorem State.store_attend (s : State) (f : Attention → Attention) : (s.attend f).store = s.store := rfl

@[simp] theorem State.flash_attend (s : State) (f : Attention → Attention) : (s.attend f).flash = s.flash := rfl

@[simp] theorem State.draws_attend (s : State) (f : Attention → Attention) : (s.attend f).draws = s.draws := rfl

/-! ## setCtx -/

@[simp] theorem State.pending_setCtx (s : State) (e : End) (c : Ctx) : (s.setCtx e c).pending = s.pending := rfl

@[simp] theorem State.pins_setCtx (s : State) (e : End) (c : Ctx) : (s.setCtx e c).pins = s.pins := rfl

@[simp] theorem State.params_setCtx (s : State) (e : End) (c : Ctx) : (s.setCtx e c).params = s.params := rfl

@[simp] theorem State.ports_setCtx (s : State) (e : End) (c : Ctx) : (s.setCtx e c).ports = s.ports := rfl

@[simp] theorem State.station_setCtx (s : State) (e : End) (c : Ctx) : (s.setCtx e c).station = s.station := rfl

@[simp] theorem State.time_setCtx (s : State) (e : End) (c : Ctx) : (s.setCtx e c).time = s.time := rfl

@[simp] theorem State.tariff_setCtx (s : State) (e : End) (c : Ctx) : (s.setCtx e c).tariff = s.tariff := rfl

@[simp] theorem State.sightings_setCtx (s : State) (e : End) (c : Ctx) : (s.setCtx e c).sightings = s.sightings := rfl

@[simp] theorem State.deny_setCtx (s : State) (e : End) (c : Ctx) : (s.setCtx e c).deny = s.deny := rfl

@[simp] theorem State.aisle_setCtx (s : State) (e : End) (c : Ctx) : (s.setCtx e c).aisle = s.aisle := rfl

@[simp] theorem State.monitor_setCtx (s : State) (e : End) (c : Ctx) : (s.setCtx e c).monitor = s.monitor := rfl

@[simp] theorem State.drive_setCtx (s : State) (e : End) (c : Ctx) : (s.setCtx e c).drive = s.drive := rfl

@[simp] theorem State.emergency_setCtx (s : State) (e : End) (c : Ctx) : (s.setCtx e c).emergency = s.emergency := rfl

@[simp] theorem State.journal_setCtx (s : State) (e : End) (c : Ctx) : (s.setCtx e c).journal = s.journal := rfl

@[simp] theorem State.store_setCtx (s : State) (e : End) (c : Ctx) : (s.setCtx e c).store = s.store := rfl

@[simp] theorem State.flash_setCtx (s : State) (e : End) (c : Ctx) : (s.setCtx e c).flash = s.flash := rfl

@[simp] theorem State.draws_setCtx (s : State) (e : End) (c : Ctx) : (s.setCtx e c).draws = s.draws := rfl

/-! ## setLateCard -/

@[simp] theorem State.pending_setLateCard (s : State) (e : End) (c : Option Nat) : (s.setLateCard e c).pending = s.pending := rfl

@[simp] theorem State.pins_setLateCard (s : State) (e : End) (c : Option Nat) : (s.setLateCard e c).pins = s.pins := rfl

@[simp] theorem State.params_setLateCard (s : State) (e : End) (c : Option Nat) : (s.setLateCard e c).params = s.params := rfl

@[simp] theorem State.ports_setLateCard (s : State) (e : End) (c : Option Nat) : (s.setLateCard e c).ports = s.ports := rfl

@[simp] theorem State.station_setLateCard (s : State) (e : End) (c : Option Nat) : (s.setLateCard e c).station = s.station := rfl

@[simp] theorem State.time_setLateCard (s : State) (e : End) (c : Option Nat) : (s.setLateCard e c).time = s.time := rfl

@[simp] theorem State.tariff_setLateCard (s : State) (e : End) (c : Option Nat) : (s.setLateCard e c).tariff = s.tariff := rfl

@[simp] theorem State.sightings_setLateCard (s : State) (e : End) (c : Option Nat) : (s.setLateCard e c).sightings = s.sightings := rfl

@[simp] theorem State.deny_setLateCard (s : State) (e : End) (c : Option Nat) : (s.setLateCard e c).deny = s.deny := rfl

@[simp] theorem State.aisle_setLateCard (s : State) (e : End) (c : Option Nat) : (s.setLateCard e c).aisle = s.aisle := rfl

@[simp] theorem State.monitor_setLateCard (s : State) (e : End) (c : Option Nat) : (s.setLateCard e c).monitor = s.monitor := rfl

@[simp] theorem State.drive_setLateCard (s : State) (e : End) (c : Option Nat) : (s.setLateCard e c).drive = s.drive := rfl

@[simp] theorem State.emergency_setLateCard (s : State) (e : End) (c : Option Nat) : (s.setLateCard e c).emergency = s.emergency := rfl

@[simp] theorem State.journal_setLateCard (s : State) (e : End) (c : Option Nat) : (s.setLateCard e c).journal = s.journal := rfl

@[simp] theorem State.store_setLateCard (s : State) (e : End) (c : Option Nat) : (s.setLateCard e c).store = s.store := rfl

@[simp] theorem State.flash_setLateCard (s : State) (e : End) (c : Option Nat) : (s.setLateCard e c).flash = s.flash := rfl

@[simp] theorem State.draws_setLateCard (s : State) (e : End) (c : Option Nat) : (s.setLateCard e c).draws = s.draws := rfl

/-! ## setPort -/

@[simp] theorem State.pending_setPort (s : State) (e : End) (p : EndPort) : (s.setPort e p).pending = s.pending := rfl

@[simp] theorem State.pins_setPort (s : State) (e : End) (p : EndPort) : (s.setPort e p).pins = s.pins := rfl

@[simp] theorem State.params_setPort (s : State) (e : End) (p : EndPort) : (s.setPort e p).params = s.params := rfl

@[simp] theorem State.au_setPort (s : State) (e : End) (p : EndPort) : (s.setPort e p).au = s.au := rfl

@[simp] theorem State.station_setPort (s : State) (e : End) (p : EndPort) : (s.setPort e p).station = s.station := rfl

@[simp] theorem State.time_setPort (s : State) (e : End) (p : EndPort) : (s.setPort e p).time = s.time := rfl

@[simp] theorem State.tariff_setPort (s : State) (e : End) (p : EndPort) : (s.setPort e p).tariff = s.tariff := rfl

@[simp] theorem State.sightings_setPort (s : State) (e : End) (p : EndPort) : (s.setPort e p).sightings = s.sightings := rfl

@[simp] theorem State.deny_setPort (s : State) (e : End) (p : EndPort) : (s.setPort e p).deny = s.deny := rfl

@[simp] theorem State.aisle_setPort (s : State) (e : End) (p : EndPort) : (s.setPort e p).aisle = s.aisle := rfl

@[simp] theorem State.monitor_setPort (s : State) (e : End) (p : EndPort) : (s.setPort e p).monitor = s.monitor := rfl

@[simp] theorem State.drive_setPort (s : State) (e : End) (p : EndPort) : (s.setPort e p).drive = s.drive := rfl

@[simp] theorem State.emergency_setPort (s : State) (e : End) (p : EndPort) : (s.setPort e p).emergency = s.emergency := rfl

@[simp] theorem State.journal_setPort (s : State) (e : End) (p : EndPort) : (s.setPort e p).journal = s.journal := rfl

@[simp] theorem State.store_setPort (s : State) (e : End) (p : EndPort) : (s.setPort e p).store = s.store := rfl

@[simp] theorem State.flash_setPort (s : State) (e : End) (p : EndPort) : (s.setPort e p).flash = s.flash := rfl

@[simp] theorem State.draws_setPort (s : State) (e : End) (p : EndPort) : (s.setPort e p).draws = s.draws := rfl

/-! ## respond -/

@[simp] theorem State.pending_respond (s : State) (e : End) (r : Response) : (s.respond e r).pending = s.pending := rfl

@[simp] theorem State.pins_respond (s : State) (e : End) (r : Response) : (s.respond e r).pins = s.pins := rfl

@[simp] theorem State.params_respond (s : State) (e : End) (r : Response) : (s.respond e r).params = s.params := rfl

@[simp] theorem State.au_respond (s : State) (e : End) (r : Response) : (s.respond e r).au = s.au := rfl

@[simp] theorem State.station_respond (s : State) (e : End) (r : Response) : (s.respond e r).station = s.station := rfl

@[simp] theorem State.time_respond (s : State) (e : End) (r : Response) : (s.respond e r).time = s.time := rfl

@[simp] theorem State.tariff_respond (s : State) (e : End) (r : Response) : (s.respond e r).tariff = s.tariff := rfl

@[simp] theorem State.sightings_respond (s : State) (e : End) (r : Response) : (s.respond e r).sightings = s.sightings := rfl

@[simp] theorem State.deny_respond (s : State) (e : End) (r : Response) : (s.respond e r).deny = s.deny := rfl

@[simp] theorem State.aisle_respond (s : State) (e : End) (r : Response) : (s.respond e r).aisle = s.aisle := rfl

@[simp] theorem State.monitor_respond (s : State) (e : End) (r : Response) : (s.respond e r).monitor = s.monitor := rfl

@[simp] theorem State.drive_respond (s : State) (e : End) (r : Response) : (s.respond e r).drive = s.drive := rfl

@[simp] theorem State.emergency_respond (s : State) (e : End) (r : Response) : (s.respond e r).emergency = s.emergency := rfl

@[simp] theorem State.journal_respond (s : State) (e : End) (r : Response) : (s.respond e r).journal = s.journal := rfl

@[simp] theorem State.store_respond (s : State) (e : End) (r : Response) : (s.respond e r).store = s.store := rfl

@[simp] theorem State.flash_respond (s : State) (e : End) (r : Response) : (s.respond e r).flash = s.flash := rfl

@[simp] theorem State.draws_respond (s : State) (e : End) (r : Response) : (s.respond e r).draws = s.draws := rfl

/-! ## postLate -/

@[simp] theorem State.pending_postLate (s : State) (e : End) (d : Decision) : (s.postLate e d).pending = s.pending := rfl

@[simp] theorem State.pins_postLate (s : State) (e : End) (d : Decision) : (s.postLate e d).pins = s.pins := rfl

@[simp] theorem State.params_postLate (s : State) (e : End) (d : Decision) : (s.postLate e d).params = s.params := rfl

@[simp] theorem State.au_postLate (s : State) (e : End) (d : Decision) : (s.postLate e d).au = s.au := rfl

@[simp] theorem State.station_postLate (s : State) (e : End) (d : Decision) : (s.postLate e d).station = s.station := rfl

@[simp] theorem State.time_postLate (s : State) (e : End) (d : Decision) : (s.postLate e d).time = s.time := rfl

@[simp] theorem State.tariff_postLate (s : State) (e : End) (d : Decision) : (s.postLate e d).tariff = s.tariff := rfl

@[simp] theorem State.sightings_postLate (s : State) (e : End) (d : Decision) : (s.postLate e d).sightings = s.sightings := rfl

@[simp] theorem State.deny_postLate (s : State) (e : End) (d : Decision) : (s.postLate e d).deny = s.deny := rfl

@[simp] theorem State.aisle_postLate (s : State) (e : End) (d : Decision) : (s.postLate e d).aisle = s.aisle := rfl

@[simp] theorem State.monitor_postLate (s : State) (e : End) (d : Decision) : (s.postLate e d).monitor = s.monitor := rfl

@[simp] theorem State.drive_postLate (s : State) (e : End) (d : Decision) : (s.postLate e d).drive = s.drive := rfl

@[simp] theorem State.emergency_postLate (s : State) (e : End) (d : Decision) : (s.postLate e d).emergency = s.emergency := rfl

@[simp] theorem State.journal_postLate (s : State) (e : End) (d : Decision) : (s.postLate e d).journal = s.journal := rfl

@[simp] theorem State.store_postLate (s : State) (e : End) (d : Decision) : (s.postLate e d).store = s.store := rfl

@[simp] theorem State.flash_postLate (s : State) (e : End) (d : Decision) : (s.postLate e d).flash = s.flash := rfl

@[simp] theorem State.draws_postLate (s : State) (e : End) (d : Decision) : (s.postLate e d).draws = s.draws := rfl

/-! ## command -/

@[simp] theorem State.pending_command (s : State) (c : FlapCmd) : (s.command c).pending = s.pending := rfl

@[simp] theorem State.pins_command (s : State) (c : FlapCmd) : (s.command c).pins = s.pins := rfl

@[simp] theorem State.params_command (s : State) (c : FlapCmd) : (s.command c).params = s.params := rfl

@[simp] theorem State.au_command (s : State) (c : FlapCmd) : (s.command c).au = s.au := rfl

@[simp] theorem State.ports_command (s : State) (c : FlapCmd) : (s.command c).ports = s.ports := rfl

@[simp] theorem State.station_command (s : State) (c : FlapCmd) : (s.command c).station = s.station := rfl

@[simp] theorem State.time_command (s : State) (c : FlapCmd) : (s.command c).time = s.time := rfl

@[simp] theorem State.tariff_command (s : State) (c : FlapCmd) : (s.command c).tariff = s.tariff := rfl

@[simp] theorem State.sightings_command (s : State) (c : FlapCmd) : (s.command c).sightings = s.sightings := rfl

@[simp] theorem State.deny_command (s : State) (c : FlapCmd) : (s.command c).deny = s.deny := rfl

@[simp] theorem State.aisle_command (s : State) (c : FlapCmd) : (s.command c).aisle = s.aisle := rfl

@[simp] theorem State.monitor_command (s : State) (c : FlapCmd) : (s.command c).monitor = s.monitor := rfl

@[simp] theorem State.emergency_command (s : State) (c : FlapCmd) : (s.command c).emergency = s.emergency := rfl

@[simp] theorem State.journal_command (s : State) (c : FlapCmd) : (s.command c).journal = s.journal := rfl

@[simp] theorem State.store_command (s : State) (c : FlapCmd) : (s.command c).store = s.store := rfl

@[simp] theorem State.flash_command (s : State) (c : FlapCmd) : (s.command c).flash = s.flash := rfl

@[simp] theorem State.draws_command (s : State) (c : FlapCmd) : (s.command c).draws = s.draws := rfl

/-! ## setWaiting -/

@[simp] theorem State.pending_setWaiting (s : State) (e : End) (w : Bool) : (s.setWaiting e w).pending = s.pending := rfl

@[simp] theorem State.pins_setWaiting (s : State) (e : End) (w : Bool) : (s.setWaiting e w).pins = s.pins := rfl

@[simp] theorem State.params_setWaiting (s : State) (e : End) (w : Bool) : (s.setWaiting e w).params = s.params := rfl

@[simp] theorem State.au_setWaiting (s : State) (e : End) (w : Bool) : (s.setWaiting e w).au = s.au := rfl

@[simp] theorem State.ports_setWaiting (s : State) (e : End) (w : Bool) : (s.setWaiting e w).ports = s.ports := rfl

@[simp] theorem State.station_setWaiting (s : State) (e : End) (w : Bool) : (s.setWaiting e w).station = s.station := rfl

@[simp] theorem State.time_setWaiting (s : State) (e : End) (w : Bool) : (s.setWaiting e w).time = s.time := rfl

@[simp] theorem State.tariff_setWaiting (s : State) (e : End) (w : Bool) : (s.setWaiting e w).tariff = s.tariff := rfl

@[simp] theorem State.sightings_setWaiting (s : State) (e : End) (w : Bool) : (s.setWaiting e w).sightings = s.sightings := rfl

@[simp] theorem State.deny_setWaiting (s : State) (e : End) (w : Bool) : (s.setWaiting e w).deny = s.deny := rfl

@[simp] theorem State.monitor_setWaiting (s : State) (e : End) (w : Bool) : (s.setWaiting e w).monitor = s.monitor := rfl

@[simp] theorem State.drive_setWaiting (s : State) (e : End) (w : Bool) : (s.setWaiting e w).drive = s.drive := rfl

@[simp] theorem State.emergency_setWaiting (s : State) (e : End) (w : Bool) : (s.setWaiting e w).emergency = s.emergency := rfl

@[simp] theorem State.journal_setWaiting (s : State) (e : End) (w : Bool) : (s.setWaiting e w).journal = s.journal := rfl

@[simp] theorem State.store_setWaiting (s : State) (e : End) (w : Bool) : (s.setWaiting e w).store = s.store := rfl

@[simp] theorem State.flash_setWaiting (s : State) (e : End) (w : Bool) : (s.setWaiting e w).flash = s.flash := rfl

@[simp] theorem State.draws_setWaiting (s : State) (e : End) (w : Bool) : (s.setWaiting e w).draws = s.draws := rfl

/-! ## takeReservation -/

@[simp] theorem State.pending_takeReservation (s : State) (e : End) : (s.takeReservation e).pending = s.pending := rfl

@[simp] theorem State.pins_takeReservation (s : State) (e : End) : (s.takeReservation e).pins = s.pins := rfl

@[simp] theorem State.params_takeReservation (s : State) (e : End) : (s.takeReservation e).params = s.params := rfl

@[simp] theorem State.au_takeReservation (s : State) (e : End) : (s.takeReservation e).au = s.au := rfl

@[simp] theorem State.ports_takeReservation (s : State) (e : End) : (s.takeReservation e).ports = s.ports := rfl

@[simp] theorem State.station_takeReservation (s : State) (e : End) : (s.takeReservation e).station = s.station := rfl

@[simp] theorem State.time_takeReservation (s : State) (e : End) : (s.takeReservation e).time = s.time := rfl

@[simp] theorem State.tariff_takeReservation (s : State) (e : End) : (s.takeReservation e).tariff = s.tariff := rfl

@[simp] theorem State.sightings_takeReservation (s : State) (e : End) : (s.takeReservation e).sightings = s.sightings := rfl

@[simp] theorem State.deny_takeReservation (s : State) (e : End) : (s.takeReservation e).deny = s.deny := rfl

@[simp] theorem State.monitor_takeReservation (s : State) (e : End) : (s.takeReservation e).monitor = s.monitor := rfl

@[simp] theorem State.drive_takeReservation (s : State) (e : End) : (s.takeReservation e).drive = s.drive := rfl

@[simp] theorem State.emergency_takeReservation (s : State) (e : End) : (s.takeReservation e).emergency = s.emergency := rfl

@[simp] theorem State.journal_takeReservation (s : State) (e : End) : (s.takeReservation e).journal = s.journal := rfl

@[simp] theorem State.store_takeReservation (s : State) (e : End) : (s.takeReservation e).store = s.store := rfl

@[simp] theorem State.flash_takeReservation (s : State) (e : End) : (s.takeReservation e).flash = s.flash := rfl

@[simp] theorem State.draws_takeReservation (s : State) (e : End) : (s.takeReservation e).draws = s.draws := rfl

/-! ## releaseReservation -/

@[simp] theorem State.pending_releaseReservation (s : State) : s.releaseReservation.pending = s.pending := rfl

@[simp] theorem State.pins_releaseReservation (s : State) : s.releaseReservation.pins = s.pins := rfl

@[simp] theorem State.params_releaseReservation (s : State) : s.releaseReservation.params = s.params := rfl

@[simp] theorem State.au_releaseReservation (s : State) : s.releaseReservation.au = s.au := rfl

@[simp] theorem State.ports_releaseReservation (s : State) : s.releaseReservation.ports = s.ports := rfl

@[simp] theorem State.station_releaseReservation (s : State) : s.releaseReservation.station = s.station := rfl

@[simp] theorem State.time_releaseReservation (s : State) : s.releaseReservation.time = s.time := rfl

@[simp] theorem State.tariff_releaseReservation (s : State) : s.releaseReservation.tariff = s.tariff := rfl

@[simp] theorem State.sightings_releaseReservation (s : State) : s.releaseReservation.sightings = s.sightings := rfl

@[simp] theorem State.deny_releaseReservation (s : State) : s.releaseReservation.deny = s.deny := rfl

@[simp] theorem State.monitor_releaseReservation (s : State) : s.releaseReservation.monitor = s.monitor := rfl

@[simp] theorem State.drive_releaseReservation (s : State) : s.releaseReservation.drive = s.drive := rfl

@[simp] theorem State.emergency_releaseReservation (s : State) : s.releaseReservation.emergency = s.emergency := rfl

@[simp] theorem State.journal_releaseReservation (s : State) : s.releaseReservation.journal = s.journal := rfl

@[simp] theorem State.store_releaseReservation (s : State) : s.releaseReservation.store = s.store := rfl

@[simp] theorem State.flash_releaseReservation (s : State) : s.releaseReservation.flash = s.flash := rfl

@[simp] theorem State.draws_releaseReservation (s : State) : s.releaseReservation.draws = s.draws := rfl

/-! ## setOutcome -/

@[simp] theorem State.pending_setOutcome (s : State) (c : Nat) (o : Sighted) : (s.setOutcome c o).pending = s.pending := rfl

@[simp] theorem State.pins_setOutcome (s : State) (c : Nat) (o : Sighted) : (s.setOutcome c o).pins = s.pins := rfl

@[simp] theorem State.params_setOutcome (s : State) (c : Nat) (o : Sighted) : (s.setOutcome c o).params = s.params := rfl

@[simp] theorem State.au_setOutcome (s : State) (c : Nat) (o : Sighted) : (s.setOutcome c o).au = s.au := rfl

@[simp] theorem State.ports_setOutcome (s : State) (c : Nat) (o : Sighted) : (s.setOutcome c o).ports = s.ports := rfl

@[simp] theorem State.station_setOutcome (s : State) (c : Nat) (o : Sighted) : (s.setOutcome c o).station = s.station := rfl

@[simp] theorem State.time_setOutcome (s : State) (c : Nat) (o : Sighted) : (s.setOutcome c o).time = s.time := rfl

@[simp] theorem State.tariff_setOutcome (s : State) (c : Nat) (o : Sighted) : (s.setOutcome c o).tariff = s.tariff := rfl

@[simp] theorem State.deny_setOutcome (s : State) (c : Nat) (o : Sighted) : (s.setOutcome c o).deny = s.deny := rfl

@[simp] theorem State.aisle_setOutcome (s : State) (c : Nat) (o : Sighted) : (s.setOutcome c o).aisle = s.aisle := rfl

@[simp] theorem State.monitor_setOutcome (s : State) (c : Nat) (o : Sighted) : (s.setOutcome c o).monitor = s.monitor := rfl

@[simp] theorem State.drive_setOutcome (s : State) (c : Nat) (o : Sighted) : (s.setOutcome c o).drive = s.drive := rfl

@[simp] theorem State.emergency_setOutcome (s : State) (c : Nat) (o : Sighted) : (s.setOutcome c o).emergency = s.emergency := rfl

@[simp] theorem State.journal_setOutcome (s : State) (c : Nat) (o : Sighted) : (s.setOutcome c o).journal = s.journal := rfl

@[simp] theorem State.store_setOutcome (s : State) (c : Nat) (o : Sighted) : (s.setOutcome c o).store = s.store := rfl

@[simp] theorem State.flash_setOutcome (s : State) (c : Nat) (o : Sighted) : (s.setOutcome c o).flash = s.flash := rfl

@[simp] theorem State.draws_setOutcome (s : State) (c : Nat) (o : Sighted) : (s.setOutcome c o).draws = s.draws := rfl

/-! ## recordGrant -/

@[simp] theorem State.pending_recordGrant (s : State) (e : End) (t : Txn) : (s.recordGrant e t).pending = s.pending := rfl

@[simp] theorem State.pins_recordGrant (s : State) (e : End) (t : Txn) : (s.recordGrant e t).pins = s.pins := rfl

@[simp] theorem State.params_recordGrant (s : State) (e : End) (t : Txn) : (s.recordGrant e t).params = s.params := rfl

@[simp] theorem State.au_recordGrant (s : State) (e : End) (t : Txn) : (s.recordGrant e t).au = s.au := rfl

@[simp] theorem State.ports_recordGrant (s : State) (e : End) (t : Txn) : (s.recordGrant e t).ports = s.ports := rfl

@[simp] theorem State.station_recordGrant (s : State) (e : End) (t : Txn) : (s.recordGrant e t).station = s.station := rfl

@[simp] theorem State.time_recordGrant (s : State) (e : End) (t : Txn) : (s.recordGrant e t).time = s.time := rfl

@[simp] theorem State.tariff_recordGrant (s : State) (e : End) (t : Txn) : (s.recordGrant e t).tariff = s.tariff := rfl

@[simp] theorem State.deny_recordGrant (s : State) (e : End) (t : Txn) : (s.recordGrant e t).deny = s.deny := rfl

@[simp] theorem State.aisle_recordGrant (s : State) (e : End) (t : Txn) : (s.recordGrant e t).aisle = s.aisle := rfl

@[simp] theorem State.monitor_recordGrant (s : State) (e : End) (t : Txn) : (s.recordGrant e t).monitor = s.monitor := rfl

@[simp] theorem State.drive_recordGrant (s : State) (e : End) (t : Txn) : (s.recordGrant e t).drive = s.drive := rfl

@[simp] theorem State.emergency_recordGrant (s : State) (e : End) (t : Txn) : (s.recordGrant e t).emergency = s.emergency := rfl

@[simp] theorem State.journal_recordGrant (s : State) (e : End) (t : Txn) : (s.recordGrant e t).journal = s.journal := rfl

@[simp] theorem State.store_recordGrant (s : State) (e : End) (t : Txn) : (s.recordGrant e t).store = s.store := rfl

@[simp] theorem State.flash_recordGrant (s : State) (e : End) (t : Txn) : (s.recordGrant e t).flash = s.flash := rfl

@[simp] theorem State.draws_recordGrant (s : State) (e : End) (t : Txn) : (s.recordGrant e t).draws = s.draws := rfl

/-! ## awaitBreak -/

@[simp] theorem State.pending_awaitBreak (s : State) : s.awaitBreak.pending = s.pending := rfl

@[simp] theorem State.pins_awaitBreak (s : State) : s.awaitBreak.pins = s.pins := rfl

@[simp] theorem State.params_awaitBreak (s : State) : s.awaitBreak.params = s.params := rfl

@[simp] theorem State.au_awaitBreak (s : State) : s.awaitBreak.au = s.au := rfl

@[simp] theorem State.ports_awaitBreak (s : State) : s.awaitBreak.ports = s.ports := rfl

@[simp] theorem State.time_awaitBreak (s : State) : s.awaitBreak.time = s.time := rfl

@[simp] theorem State.tariff_awaitBreak (s : State) : s.awaitBreak.tariff = s.tariff := rfl

@[simp] theorem State.sightings_awaitBreak (s : State) : s.awaitBreak.sightings = s.sightings := rfl

@[simp] theorem State.deny_awaitBreak (s : State) : s.awaitBreak.deny = s.deny := rfl

@[simp] theorem State.aisle_awaitBreak (s : State) : s.awaitBreak.aisle = s.aisle := rfl

@[simp] theorem State.monitor_awaitBreak (s : State) : s.awaitBreak.monitor = s.monitor := rfl

@[simp] theorem State.drive_awaitBreak (s : State) : s.awaitBreak.drive = s.drive := rfl

@[simp] theorem State.emergency_awaitBreak (s : State) : s.awaitBreak.emergency = s.emergency := rfl

@[simp] theorem State.journal_awaitBreak (s : State) : s.awaitBreak.journal = s.journal := rfl

@[simp] theorem State.store_awaitBreak (s : State) : s.awaitBreak.store = s.store := rfl

@[simp] theorem State.flash_awaitBreak (s : State) : s.awaitBreak.flash = s.flash := rfl

@[simp] theorem State.draws_awaitBreak (s : State) : s.awaitBreak.draws = s.draws := rfl

/-! ## freeInbound -/

@[simp] theorem State.pending_freeInbound (s : State) : s.freeInbound.pending = s.pending := rfl

@[simp] theorem State.pins_freeInbound (s : State) : s.freeInbound.pins = s.pins := rfl

@[simp] theorem State.params_freeInbound (s : State) : s.freeInbound.params = s.params := rfl

@[simp] theorem State.au_freeInbound (s : State) : s.freeInbound.au = s.au := rfl

@[simp] theorem State.ports_freeInbound (s : State) : s.freeInbound.ports = s.ports := rfl

@[simp] theorem State.time_freeInbound (s : State) : s.freeInbound.time = s.time := rfl

@[simp] theorem State.tariff_freeInbound (s : State) : s.freeInbound.tariff = s.tariff := rfl

@[simp] theorem State.sightings_freeInbound (s : State) : s.freeInbound.sightings = s.sightings := rfl

@[simp] theorem State.deny_freeInbound (s : State) : s.freeInbound.deny = s.deny := rfl

@[simp] theorem State.aisle_freeInbound (s : State) : s.freeInbound.aisle = s.aisle := rfl

@[simp] theorem State.monitor_freeInbound (s : State) : s.freeInbound.monitor = s.monitor := rfl

@[simp] theorem State.drive_freeInbound (s : State) : s.freeInbound.drive = s.drive := rfl

@[simp] theorem State.emergency_freeInbound (s : State) : s.freeInbound.emergency = s.emergency := rfl

@[simp] theorem State.journal_freeInbound (s : State) : s.freeInbound.journal = s.journal := rfl

@[simp] theorem State.store_freeInbound (s : State) : s.freeInbound.store = s.store := rfl

@[simp] theorem State.flash_freeInbound (s : State) : s.freeInbound.flash = s.flash := rfl

@[simp] theorem State.draws_freeInbound (s : State) : s.freeInbound.draws = s.draws := rfl

/-! ## opOver -/

@[simp] theorem State.pending_opOver (s : State) : s.opOver.pending = s.pending := rfl

@[simp] theorem State.pins_opOver (s : State) : s.opOver.pins = s.pins := rfl

@[simp] theorem State.params_opOver (s : State) : s.opOver.params = s.params := rfl

@[simp] theorem State.au_opOver (s : State) : s.opOver.au = s.au := rfl

@[simp] theorem State.ports_opOver (s : State) : s.opOver.ports = s.ports := rfl

@[simp] theorem State.station_opOver (s : State) : s.opOver.station = s.station := rfl

@[simp] theorem State.time_opOver (s : State) : s.opOver.time = s.time := rfl

@[simp] theorem State.tariff_opOver (s : State) : s.opOver.tariff = s.tariff := rfl

@[simp] theorem State.sightings_opOver (s : State) : s.opOver.sightings = s.sightings := rfl

@[simp] theorem State.deny_opOver (s : State) : s.opOver.deny = s.deny := rfl

@[simp] theorem State.aisle_opOver (s : State) : s.opOver.aisle = s.aisle := rfl

@[simp] theorem State.monitor_opOver (s : State) : s.opOver.monitor = s.monitor := rfl

@[simp] theorem State.drive_opOver (s : State) : s.opOver.drive = s.drive := rfl

@[simp] theorem State.emergency_opOver (s : State) : s.opOver.emergency = s.emergency := rfl

@[simp] theorem State.journal_opOver (s : State) : s.opOver.journal = s.journal := rfl

@[simp] theorem State.flash_opOver (s : State) : s.opOver.flash = s.flash := rfl

@[simp] theorem State.draws_opOver (s : State) : s.opOver.draws = s.draws := rfl

/-! ## withPending -/

@[simp] theorem State.pins_withPending (s : State) (q : List Instr) : (s.withPending q).pins = s.pins := rfl

@[simp] theorem State.params_withPending (s : State) (q : List Instr) : (s.withPending q).params = s.params := rfl

@[simp] theorem State.au_withPending (s : State) (q : List Instr) : (s.withPending q).au = s.au := rfl

@[simp] theorem State.ports_withPending (s : State) (q : List Instr) : (s.withPending q).ports = s.ports := rfl

@[simp] theorem State.station_withPending (s : State) (q : List Instr) : (s.withPending q).station = s.station := rfl

@[simp] theorem State.time_withPending (s : State) (q : List Instr) : (s.withPending q).time = s.time := rfl

@[simp] theorem State.tariff_withPending (s : State) (q : List Instr) : (s.withPending q).tariff = s.tariff := rfl

@[simp] theorem State.sightings_withPending (s : State) (q : List Instr) : (s.withPending q).sightings = s.sightings := rfl

@[simp] theorem State.deny_withPending (s : State) (q : List Instr) : (s.withPending q).deny = s.deny := rfl

@[simp] theorem State.aisle_withPending (s : State) (q : List Instr) : (s.withPending q).aisle = s.aisle := rfl

@[simp] theorem State.monitor_withPending (s : State) (q : List Instr) : (s.withPending q).monitor = s.monitor := rfl

@[simp] theorem State.drive_withPending (s : State) (q : List Instr) : (s.withPending q).drive = s.drive := rfl

@[simp] theorem State.emergency_withPending (s : State) (q : List Instr) : (s.withPending q).emergency = s.emergency := rfl

@[simp] theorem State.journal_withPending (s : State) (q : List Instr) : (s.withPending q).journal = s.journal := rfl

@[simp] theorem State.store_withPending (s : State) (q : List Instr) : (s.withPending q).store = s.store := rfl

@[simp] theorem State.flash_withPending (s : State) (q : List Instr) : (s.withPending q).flash = s.flash := rfl

@[simp] theorem State.draws_withPending (s : State) (q : List Instr) : (s.withPending q).draws = s.draws := rfl

end Sys2Proof.Machine
end

