-- ==== Sys2Proof/Tests/Slice0.lean ====
section
/-! SUPPORT. The smoke tests of WellFormed, small tests from the manual's worked sequences, and a witness for the
hypotheses of each statement. -/

namespace Sys2Proof.Tests

-- One proof at a time: proofs elaborated side by side in one joined file ask for a thread each.
set_option Elab.async false

open Sys2Proof.Machine

/-! ## Fixtures -/

/-- A check key. -/
def key1 : List Byte := [1, 2, 3, 4, 5, 6, 7, 8]

/-- The tariff of the worked cases of section 3.5, with a key in slot 0. -/
def tariff22 : Tariff :=
  { version := 22, effectiveDay := 0
    stations := (List.range 255).map fun k => if k = 7 then 2 else if k = 12 then 1 else if k = 41 then 3 else 0
    step := 10
    fares := (List.range 256).map fun k =>
      if k = 2 then 320 else if k = 18 then 260 else if k = 34 then 200 else if k = 50 then 410 else 0
    weekday := [⟨0, 100⟩, ⟨420, 120⟩, ⟨600, 80⟩, ⟨960, 120⟩, ⟨1140, 100⟩]
    saturday := [⟨0, 90⟩, ⟨1200, 70⟩], sunday := [⟨0, 100⟩], holidays := [], epochWeekday := 3, rollover := 0
    classes := [
      { discount := 0, cap := 900, overdraft := 200, minEntry := 150, freeTravel := false },
      { discount := 0, cap := 0, overdraft := 0, minEntry := 0, freeTravel := false },
      { discount := 50, cap := 400, overdraft := 100, minEntry := 50, freeTravel := false }]
    incompleteFee := 600, sameStationFee := 150, overstay := 250, grace := 20, retapWindow := 15, maxJourney := 180
    skewTolerance := 5, keys := [some key1, none, none, none], writeKey := 0 }

/-- A card image, not yet signed. -/
def blankCard : CardImage :=
  { card := 5301774, cls := 0, state := 1, balance := 1250, sequence := 417, entryStation := 12
    entryTime := 28806385, entryAisle := 3, dayNumber := 20004, daySpend := 0, expiryDay := 65535, keyIndex := 0
    check := 0 }

/-- An image with its record check. -/
def signed (i : CardImage) : CardImage := { i with check := recordCheck key1 i }

/-- A card that came in at station 12. -/
def cardIn : CardImage := signed blankCard

/-- A card outside. -/
def cardOut : CardImage := signed { blankCard with card := 7720031, state := 0, sequence := 150, balance := 900 }

/-- An aisle in service and IDLE on day 20,004 at 11:00, end A the entry end. -/
def open0 : State :=
  { State.reset with
    store := { State.reset.store with run := .run }
    params := { paramsReset with stationCode := 41, serviceMode := .inService }
    time := { counter := 60 * 28806420, valid := true, day := some 20004 }
    tariff := { tariffReset with current := some tariff22 }
    deny := { denyReset with state := .complete }
    aisle := { arbiterReset with state := .idle }
    drive := { State.reset.drive with flap := .closed, closedLimit := filterAt true }
    journal := { journalReset with lastSeq := 20116, used := 5, progSlot := 5, free := 8187, newestProgrammed := 20116 } }

/-- The transaction of a card leaving. -/
def leaving : Txn :=
  { kind := .exit, card := 5301774, presSeq := 417, presBalance := 1250, entryStation := 12, charge := 230
    image := some { cardIn with state := 0, balance := 1020, sequence := 418 }, flags := {}, previous := none
    reference := none }

/-- An aisle with the exit of `leaving` DECIDED. -/
def decidedB : State :=
  { open0 with
    au := { authReset with ctx := { a := .idle, b := .decided leaving 1500 } }
    aisle := { arbiterReset with state := .serving, owned := some .bToA, reservation := some .b }
    journal := { open0.journal with reserved := 1 }
    sightings := [
      { card := 5301774, kind := .exit, fromEnd := .b, outcome := .decided .b, oldSeq := 417, newSeq := 418
        balance := 1020, time := 60 * 28806420 }] }

/-- The exit of `leaving` waits at end B while the aisle serves end A. -/
def waitingB : State :=
  { decidedB with
    au := { authReset with ctx := { a := .idle, b := .waitAisle leaving 3000 } }
    aisle := { arbiterReset with
      state := .serving, owned := some .aToB, waiting := { a := false, b := true }
      credits := [{ fromEnd := .a, card := 7, kind := .entry, deadline := none }] } }

/-- An aisle serving A→B with one credit at the head, the flaps open. -/
def serving1 : State :=
  { open0 with
    aisle := { arbiterReset with
      state := .serving, owned := some .aToB
      credits := [{ fromEnd := .a, card := 7, kind := .entry, deadline := some 4000 }] }
    drive := { open0.drive with
      flap := .opened, command := .toOpen, openLimit := filterAt true, closedLimit := filterAt false } }

/-- An aisle in EMERGENCY with the flaps released, no mark set. -/
def evacuated : State :=
  { open0 with
    aisle := { arbiterReset with state := .emergency }
    drive := { open0.drive with flap := .released, openLimit := filterAt true, closedLimit := filterAt false }
    emergency := { open0.emergency with stage := some .released, stamp := some (1728000000, true) } }

/-- The beams' zones replaced, with the entry side given. -/
def withZones (s : State) (z : Zones) (side : Option Side) : State :=
  { s with monitor := { s.monitor with zones := z, entrySide := side, loiter := side.map fun _ => 0 } }

/-- A VIOLATION of the direction. -/
def violatedAt (d : Dir) : State := { open0 with aisle := { arbiterReset with state := .violation, owned := some d } }

/-- The aisle of `s` OUT_OF_SERVICE. -/
def faulted7 (s : State) : State := { s with aisle := { s.aisle with state := .outOfService } }

/-- A drive in a motion. -/
def moving (s : State) (f : FlapState) : State :=
  { s with drive := { s.drive with
    flap := f, motion := some { duty := 80, remaining := 900, blanking := none, release := false }
    openLimit := filterAt false, closedLimit := filterAt false } }

/-- A station request held unanswered. -/
def held (s : State) (kind : Nat) : State :=
  s.withStation { s.station with inbound := some { form := .addressed, kind := kind, cancelled := false } }

/-- The flash store busy. -/
def busyWith (s : State) (op : FlashOp) : State := { s with store := { s.store with busy := some op } }

/-- The run state replaced. -/
def inState (s : State) (r : RunState) : State := { s with store := { s.store with run := r } }

/-- The next state of a command; the state itself where it has none. -/
def after (c : Instr) (s : State) : State :=
  match exec c s with
  | .next t => t
  | .fault _ => s
  | .refused _ => s

/-! ## WellFormed refuses an ill-formed term of each kind -/

theorem test_wf_operands : (
    [ Instr.endPortTransfer .a [] 8, .present .a { cardIn with card := 256 ^ 8 }, .present .a { cardIn with cls := 256 },
      .present .a { cardIn with state := 256 }, .present .a { cardIn with balance := 8388608 },
      .present .a { cardIn with balance := -8388609 }, .present .a { cardIn with sequence := 65536 },
      .present .a { cardIn with entryStation := 256 }, .present .a { cardIn with entryTime := 256 ^ 4 },
      .present .a { cardIn with entryAisle := 256 }, .present .a { cardIn with dayNumber := 65536 },
      .present .a { cardIn with daySpend := 65536 }, .present .a { cardIn with expiryDay := 65536 },
      .present .a { cardIn with keyIndex := 256 }, .present .a { cardIn with check := 65536 },
      .commit .a (256 ^ 8), .abort .a (256 ^ 8), .timeSet .addressed (256 ^ 4), .paramSet 256 0, .paramSet 1 65536,
      .paramGet 256, .modeSet .broadcast 256 ].all fun c => !c.wellFormed) = true := by decide +kernel

theorem test_wf_requests : (
    [ Instr.amnestyAdd .addressed 256 0 0, .amnestyAdd .addressed 0 (256 ^ 4) 0, .amnestyAdd .addressed 0 0 (256 ^ 4),
      .denyReload .addressed 65536, .denyAdd .addressed 65536 [], .denyAdd .addressed 1 [⟨256 ^ 8, 0⟩],
      .denyAdd .addressed 1 [⟨0, 256⟩], .denyAdd .addressed 1 (List.replicate 14 ⟨1, 1⟩), .denyRemove .addressed 65536 [],
      .denyRemove .addressed 1 [256 ^ 8], .denyRemove .addressed 1 (List.replicate 15 1), .denyComplete .addressed 65536,
      .denyInfo (some (256 ^ 8)), .tariffBegin 65536 0, .tariffBegin 0 65536, .tariffBlock 256 [],
      .tariffBlock 0 (List.replicate 120 0), .tariffEnd 65536, .journalRead (256 ^ 4) 1, .journalRead 1 256,
      .journalReadNext 256, .journalRelease (256 ^ 4), .eventsClear 65536 ].all fun c => !c.wellFormed) = true := by
  decide +kernel

theorem test_wf_accepts : (
    [ Instr.endPortTransfer .a [] 7, .present .a cardIn, .denyAdd .addressed 1 [⟨5, 1⟩], .denyInfo none,
      .journalRead 1 3 ].all Instr.wellFormed) = true := by decide +kernel

/-! ## Formats (chapter 12) -/

/-- The published check of the nine digits under the CRC-16 that R2 and R187 describe, with no key before them. -/
theorem test_crc16 : crc16 [49, 50, 51, 52, 53, 54, 55, 56, 57] = 10673 := by decide +kernel

/-- The published check of the nine digits under R187's CRC-8. -/
theorem test_crc8 : crc8 [49, 50, 51, 52, 53, 54, 55, 56, 57] = 244 := by decide +kernel

/-- The COMMIT of card 1: kind 2, length 8, the card number most significant byte first (12.2, 12.9). -/
theorem test_commit_frame : (EndRequest.commit 1).frame.take 10 = [2, 8, 0, 0, 0, 0, 0, 0, 0, 1] := by decide

/-- R175: a length byte above 120 comes before the check, a missing byte is a frame error, a kind byte of 0 is nothing. -/
theorem test_judged_in_order : judgeInward [2, 121, 5] = .error .badLength ∧ judgeInward [2, 8, 0] = .error .frameError
    ∧ judgeInward [0, 200, 7] = .nothing := by decide

/-! ## Fares: the worked cases of 3.5 -/

/-- Case 1: a child fare, capped, into overdraft. -/
theorem test_fare_case_1 : (match exitFare
      { image := { blankCard with cls := 2, balance := 50, daySpend := 320 }, now := 60 * 28806420, today := 20004
        tariff := tariff22, station := 41, aisle := 3, windows := [] } with
    | .grant charge flags new => (charge, flags.overdraft, new.balance, new.daySpend) == (80, true, -30, 400)
    | .refuse _ => false) = true := by decide +kernel

/-- Cases 2 and 3: a half step rounds up, and the largest fare before saturation. -/
theorem test_fare_cases_2_3 : scaledFare 250 100 0 20 = 260 ∧ scaledFare 65535 250 0 1 = 163838 := by decide

/-- Case 4: unknown origin, overstay and the cap together. -/
theorem test_fare_case_4 : (match exitFare
      { image := { blankCard with balance := 2000, entryStation := 60, entryTime := 28806790, daySpend := 500 }
        now := 60 * 28807000, today := 20004, tariff := tariff22, station := 41, aisle := 3, windows := [] } with
    | .grant charge flags new => (charge, flags.unknownOrigin, new.balance) == (400, true, 1600)
    | .refuse _ => false) = true := by decide +kernel

/-- Case 5: a journey across midnight. -/
theorem test_fare_case_5 : (match exitFare
      { image := { blankCard with balance := 700, entryStation := 7, entryTime := 28812950, dayNumber := 20008,
                                  daySpend := 900 }
        now := 60 * 28812980, today := 20009, tariff := tariff22, station := 41, aisle := 3, windows := [] } with
    | .grant charge _ new => (charge, new.balance, new.daySpend, new.dayNumber) == (180, 520, 180, 20009)
    | .refuse _ => false) = true := by decide +kernel

/-! ## Transactions: the sequences of 1.9 -/

/-- A COMMIT makes the credit, the EXIT record 20,117 and the PENDING entry. -/
theorem test_commit : ((after (.commit .b 5301774) decidedB).queued, (after (.commit .b 5301774) decidedB).journal.lastSeq,
      (after (.commit .b 5301774) decidedB).sightings.map Sighting.outcome)
    = ([(.b, 5301774, .exit)], 20117, [.pending]) := by decide +kernel

/-- An exit presented in an IDLE aisle is DECIDED with one reservation in the journal. -/
theorem test_present : ((after (.present .b cardIn) open0).ctx .b).tag = .decided
    ∧ (after (.present .b cardIn) open0).aisle.reservation = some .b
    ∧ (after (.present .b cardIn) open0).journal.reserved = 1 := by decide +kernel

/-- One card number at both ends: CLONE, the local entry, and HELD at the other context. -/
theorem test_present_clone : ((after (.present .a cardIn) decidedB).deny.localOrder,
      ((after (.present .a cardIn) decidedB).ctx .b).txn.map fun t => t.flags.held,
      (after (.present .a cardIn) decidedB).journal.queue.map fun r => r.data.kind)
    = ([5301774], some true, [.clone]) := by decide +kernel

/-- A commit deadline leaves the late card. -/
theorem test_commit_deadline : (after (.commitDeadline .b) decidedB).au.lateCard.b = some 5301774
    ∧ (after (.commitDeadline .b) decidedB).sightings.map Sighting.outcome = [.unconfirmed 20117] := by decide +kernel

/-! ## Journal, flash and power: the sequences of 9.10 and 10.6 -/

/-- 9.10: a dropped record and the DROPPED record before the next, with a pool of 64. -/
theorem test_dropped :
    (State.append { open0 with
        journal := { open0.journal with lastSeq := 51002, free := 65, reserved := 1, dropped := 2 } }
        { kind := .intrusion, atEnd := some .b }).journal.queue.map (fun r : Record => (r.sequence, r.data.kind))
      = [(51003, RecordKind.dropped), (51004, RecordKind.intrusion)] := by decide +kernel

/-- 10.6: with 34 slots free a page release goes before the tariff queue; with 97 the tariff queue goes first. -/
theorem test_flash_turns :
    ({ open0 with
        journal := { open0.journal with free := 34, eraseQueue := [4, 9] }
        tariff := { open0.tariff with queue := [.erase .two] } }.flashKick).store.busy = some (.pageRelease 4)
    ∧ ({ open0 with
        journal := { open0.journal with free := 97, eraseQueue := [4, 9] }
        tariff := { open0.tariff with queue := [.erase .two] } }.flashKick).store.busy = some (.tariff (.erase .two) false) := by
  decide +kernel

/-- 2.2: 02:59:59 belongs to operating day 19,999 and 03:00:00 to 20,000. -/
theorem test_operating_day : (opDay 28800179 180, opMinute 28800179 180, opDay 28800180 180, opMinute 28800180 180)
    = (19999, 1439, 20000, 0) := by decide

/-! ## Aisle, flaps, emergency: the sequences of 6.7, 7.8 and 8.7 -/

/-- 7.8, at 650 ms: a body in the flap zone reverses a closing motion, with the close hold and its timer stopped. -/
theorem test_zone_reverses :
    ((after (.zoneChange ⟨true, true, false⟩) (withZones (moving open0 .closing) ⟨true, false, false⟩ none)).drive.flap,
      (after (.zoneChange ⟨true, true, false⟩) (withZones (moving open0 .closing) ⟨true, false, false⟩ none)).drive.closeHold)
    = (.opening, true) := by decide +kernel

/-- 8.7: the window of the evacuation. -/
theorem test_own_window :
    (State.ownWindow { open0 with
      time := { counter := 1728101502, valid := true, day := none }
      emergency := { open0.emergency with stamp := some (1728100000, true) } })
    = some { station := 41, fromMinute := 28801636, toMinute := 28801721 } := by decide +kernel

/-- R119: the limits are filtered apart, so the one a motion left keeps its accepted value at the other. -/
theorem test_other_limit_stands :
    (after (.flapLimitReached .openLimit) (moving open0 .opening)).drive.closedLimit = (moving open0 .opening).drive.closedLimit
    ∧ (after (.flapLimitReached .openLimit) (moving open0 .opening)).drive.openLimit.accepted = true := by decide +kernel

/-- 5.8: a DENY_ADD judged in EMPTY is a gap. -/
theorem test_gap_in_empty : (after (.denyAdd .broadcast 501 [⟨9, 1⟩]) { open0 with deny := denyReset }).deny.gap = true
    ∧ (after (.denyAdd .broadcast 501 [⟨9, 1⟩]) { open0 with deny := denyReset }).deny.state = .empty := by decide +kernel

/-- R169: start-up from reset ends in RUN with START as record 1. -/
theorem test_start_up : (after .startupEnd State.reset).store.run = .run
    ∧ ((after .startupEnd State.reset).journal.queue.map fun r => (r.sequence, r.data.kind)) = [(1, .start)] := by
  decide +kernel

/-! ## Witnesses: each statement's hypotheses are met together -/

/-- A step is taken from a state that meets every invariant with a command waiting. -/
theorem witness_invariants : ClosingClear decidedB ∧ StartingAtRest decidedB ∧ decidedB.journal.ReservedFits
    ∧ SightingsWF decidedB ∧ decidedB.journal.Rising
    ∧ ReservedMatches decidedB ∧ ClaimsMatch decidedB ∧ EmergencyAgrees decidedB ∧ decidedB.flash.Canonical
    ∧ CounterBounded decidedB ∧ AmnestyBounded decidedB
    ∧ ∃ t, step (decidedB.withPending [.commit .b 5301774]) = .next t := by
  refine ⟨by unfold ClosingClear; decide, nofun, by unfold Journal.ReservedFits; decide, ⟨by decide, ?_⟩, ⟨by decide, by decide⟩, ⟨by decide, by decide⟩,
    ⟨by decide, ?_, ?_, by decide, by decide, by decide, by decide⟩, by unfold EmergencyAgrees; decide,
    by unfold Flash.Canonical; decide, by unfold CounterBounded; decide, by unfold AmnestyBounded; decide, _, rfl⟩
  · intro e t p h hp
    cases e
    · exact absurd h (by simp [decidedB, State.ctx, PerEnd.get, Ctx.txn])
    · obtain rfl : leaving = t := by simpa [decidedB, State.ctx, PerEnd.get, Ctx.txn] using h
      exact absurd hp (by simp [leaving])
  · intro e
    cases e <;> decide
  · intro e
    cases e <;> decide

/-- Only the exit of `leaving` waits, at end B. -/
theorem slots_of_waiting (s : State) (y : Txn) (hy : y.flags.held = false)
    (hc : s.au.ctx = { a := .idle, b := .waitAisle y 3000 })
    (hw : s.aisle.waiting = { a := false, b := true }) : SlotsMatch s := by
  refine ⟨fun e => ?_, fun e x d h => ?_⟩
  · cases e <;> simp [State.ctx, hc, hw, PerEnd.get, Ctx.tag]
  · cases e
    · exact absurd h (by simp [State.ctx, hc, PerEnd.get])
    · obtain ⟨rfl, -⟩ : y = x ∧ 3000 = d := by simpa [State.ctx, hc, PerEnd.get] using h
      exact hy

/-- The same state with its sighting entry, its slots and, once shown, its lamps; and a state in which a context waits. -/
theorem witness_links : SightingsLinked decidedB ∧ SlotsMatch decidedB ∧ SlotsMatch waitingB
    ∧ decidedB.showLamps.running = true ∧ LampsShown decidedB.showLamps := by
  refine ⟨⟨by decide, ?_, ?_, by decide, by decide, by decide, ?_⟩, ⟨?_, ?_⟩, slots_of_waiting _ _ rfl rfl rfl, by decide, fun _ e => ?_⟩
  · intro e x h
    cases e
    · exact absurd h (by simp [decidedB, State.ctx, PerEnd.get, Ctx.txn])
    · obtain rfl : leaving = x := by simpa [decidedB, State.ctx, PerEnd.get, Ctx.txn] using h
      exact ⟨decidedB.sightings.head (by simp [decidedB]), by simp [decidedB], rfl, rfl⟩
  · simp only [decidedB, List.mem_singleton, forall_eq]
    rintro e ⟨⟩
    exact ⟨leaving, rfl, rfl⟩
  · intro e x p h hp
    cases e
    · exact absurd h (by simp [decidedB, State.ctx, PerEnd.get, Ctx.txn])
    · obtain rfl : leaving = x := by simpa [decidedB, State.ctx, PerEnd.get, Ctx.txn] using h
      exact absurd hp (by simp [leaving])
  · intro e
    cases e <;> decide
  · intro e x d h
    cases e <;> exact absurd h (by simp [decidedB, State.ctx, PerEnd.get])
  · cases e <;> decide

/-- The deny list's form holds of a list with one LOCAL and one STATION entry. -/
theorem witness_deny_list : DenyList.WF { denyReset with
    entries := [{ card := 4, origin := .aisle, reason := 1, added := 0 }, { card := 9, origin := .station, reason := 2, added := 0 }]
    localOrder := [4] } := by
  refine ⟨by decide, by decide, by decide, by decide, fun c => ?_⟩
  simp [eq_comm]

/-- A command in front of another. -/
theorem witness_step : (open0.withPending [.info, .restart]).pending = .info :: [.restart] := rfl

/-- The start of an emergency changes the service summary in RUN. -/
theorem witness_summary :
    open0.running = true ∧ (after .emergAsserted open0).running = true ∧ open0.summary ≠ (after .emergAsserted open0).summary := by
  decide +kernel

/-- EMERG asserted for its twentieth sample (R135). -/
def emergIn : State :=
  { open0 with emergency := { open0.emergency with input := { raw := true, prev := true, accepted := true }, settle := 19 } }

/-- The state a millisecond of an empty queue leaves. -/
def afterMs (s : State) : State :=
  match step s with
  | .next t => t
  | .fault _ => s
  | .refused _ => s

theorem witness_summary_millisecond : emergIn.pending = [] ∧ emergIn.running = true ∧ (afterMs emergIn).running = true
    ∧ emergIn.summary ≠ (afterMs emergIn).summary := by decide +kernel

theorem witness_frames : (EndRequest.present cardIn).fits = true ∧ (StationRequest.denyAdd 5 [⟨9, 1⟩]).fits = true
    ∧ (open0.port .a).request = none ∧ (open0.port .a).waiting = [] ∧ (open0.port .a).buffer = none
    ∧ (open0.port .a).transfer = none ∧ (open0.port .a).selectLow = false := by decide +kernel

/-- Rates at and beyond the range's ends, a broadcast that is let be one, kinds and payload lengths that are none, another
aisle's address, a length and a check that are wrong, and a buffer held by a request with no reply yet. -/
theorem witness_station_frames : open0.listening = true ∧ open0.station.inbound = none ∧ PortFree open0
    ∧ (9311 < 9312 ∧ 237312 < 237313 ∧ 9312 ≤ 9312 ∧ 237312 ≤ 237312)
    ∧ (StationRequest.denyReload 7).broadcastCommand = some (.denyReload .broadcast 7)
    ∧ (inState open0 (.holdover true)).running = false ∧ (inState open0 (.holdover true)).listening = true
    ∧ 1 ∉ [2, 5, 7, 8, 9, 10, 11, 12, 13] ∧ (25 < 26 ∧ decodeStation 2 [0] = .badLength)
    ∧ (numField [5, 1, 0] 0 1 ≠ 63 ∧ numField [5, 1, 0] 0 1 ≠ open0.pins.aisleNumber)
    ∧ (120 < numField [1, 1, 121] 2 1 ∧ numField [1, 1, 0, 0] 3 1 ≠ crc8 [1, 1, 0])
    ∧ (held open0 11).station.inbound = some { form := .addressed, kind := 11, cancelled := false }
    ∧ (held open0 11).station.reply = none := by
  unfold PortFree
  decide +kernel

/-- A port in a transfer whose READY was high, sending its response buffer or the empty frame. -/
def receivingA (fromBuffer : Bool) : State :=
  open0.setPort .a { endPortReset with
    buffer := if fromBuffer then some { response := .pending, late := false } else none
    transfer := some { ready := true, outward := [130, 1, 0, 9], fromBuffer := fromBuffer, overrunSent := false } }

theorem witness_transfer_begun : (receivingA true).running = true
    ∧ (receivingA true).ports.a.transfer
      = some { ready := true, outward := [130, 1, 0, 9], fromBuffer := true, overrunSent := false }
    ∧ (receivingA true).ports.a.buffer = some { response := .pending, late := false }
    ∧ [130, 1, 0, 9].length ≤ (EndRequest.commit 1).frame.length ∧ (EndRequest.commit 1).fits = true
    ∧ ((receivingA false).ports.a.transfer.map Transfer.fromBuffer) = some false
    ∧ 120 < numField [2, 121] 1 1 ∧ ([2, 8, 0] : List Byte).length < numField [2, 8, 0] 1 1 + 3
    ∧ numField [6, 0, byte (crc8 [6, 0])] 2 1 = crc8 [6, 0] ∧ numField [2, 0, byte (crc8 [2, 0])] 1 1 ≠ 8 := by
  decide +kernel

/-- The aisle takes station requests. -/
theorem witness_port_free : PortFree open0 ∧ LineFree open0 ∧ LineFree (inState open0 .starting)
    ∧ (inState open0 .starting).running = false := by
  unfold PortFree LineFree
  decide

/-- A port clocking out a frame, and one whose READY was low. -/
def sendingA : State :=
  open0.setPort .a { endPortReset with
    buffer := some { response := .pending, late := false }
    transfer := some { ready := false, outward := [130, 1, 0, 9], fromBuffer := true, overrunSent := false } }

theorem witness_transfers : open0.listening = true ∧ (open0.port .a).transfer = none ∧ sendingA.listening = true
    ∧ (sendingA.port .a).transfer = some { ready := false, outward := [130, 1, 0, 9], fromBuffer := true, overrunSent := false }
    ∧ (sendingA.port .a).buffer = some { response := .pending, late := false } ∧ numField [4, 0] 0 1 ≠ 0
    ∧ (3 < [130, 1, 0, 9].length ∧ [4, 0, 9].length < [130, 1, 0, 9].length)
    ∧ numField [4, 0, 9] 0 1 ≠ 0 ∧ numField [4, 0, 9, 0] 0 1 ≠ 0
    ∧ [130, 1, 0, 9].length ≤ [4, 0, 9, 0].length := by decide +kernel

theorem witness_transfer_discarded : (open0.setPort .a { endPortReset with
      transfer := some { ready := false, outward := [0, 0, 0], fromBuffer := false, overrunSent := false } }).listening = true
    ∧ numField [4, 0, 9] 0 1 ≠ 0 := by decide

/-- HALT with the select of port A low, and the start-up after it: the port holds no transfer of it. -/
def selectedA (r : RunState) : State := (inState open0 r).setPort .a { endPortReset with selectLow := true }

theorem witness_transfer_forgotten : (selectedA .halt).listening = false ∧ (selectedA .halt).ports.a.transfer = none
    ∧ (selectedA .run).listening = true ∧ (selectedA .run).ports.a.selectLow = true
    ∧ (selectedA .run).ports.a.transfer = none := by decide

/-- R172, R175: select falls in HALT and rises in RUN: READY was low at its falling edge, so STATUS is discarded. -/
theorem test_select_falls_in_halt : (after (.transferBegin .a) (inState open0 .halt)).ports.a.selectLow = true
    ∧ (after (.transferBegin .a) (inState open0 .halt)).ports.a.transfer = none
    ∧ (after (.endPortTransfer .a EndRequest.status.frame 0) (selectedA .run)).ports.a.overrun = true
    ∧ (after (.endPortTransfer .a EndRequest.status.frame 0) (selectedA .run)).ports.a.buffer = none := by decide +kernel

/-- The hypothesis of `Obligations.PresentRefusedInOrder` on a state and a refusal. -/
def FirstRefusal (s : State) (r : Reason) (c : Option SubCause) : Prop :=
  if s.aisle.state = .emergency then (r, c) = (.emergency, none)
  else if s.params.stationCode = 255 ∨ s.pins.aisleNumber = 0 ∨ s.pins.aisleNumber = 63 then
    (r, c) = (.outOfService, some .notConfigured)
  else if s.time.valid = false then (r, c) = (.outOfService, some .timeInvalid)
  else if s.tariff.current = none then (r, c) = (.outOfService, some .noTariff)
  else if s.params.serviceMode = .outOf then (r, c) = (.outOfService, some .stationMode)
  else s.aisle.state = .outOfService ∧ (s.drive.flap = .fault ∨ s.drive.clearing = true)
    ∧ (r, c) = (.outOfService, some .fault)

/-- R6's six conditions, each the first that holds. -/
theorem witness_present_refused :
    evacuated.running = true ∧ FirstRefusal evacuated .emergency none
    ∧ FirstRefusal { open0 with params := { open0.params with stationCode := 255 } } .outOfService (some .notConfigured)
    ∧ FirstRefusal { open0 with time := { open0.time with valid := false } } .outOfService (some .timeInvalid)
    ∧ FirstRefusal { open0 with tariff := tariffReset } .outOfService (some .noTariff)
    ∧ FirstRefusal { open0 with params := { open0.params with serviceMode := .outOf } } .outOfService (some .stationMode)
    ∧ FirstRefusal { open0 with aisle := arbiterReset, drive := { open0.drive with flap := .fault } } .outOfService
        (some .fault) := by
  refine ⟨by decide, ?_, ?_, ?_, ?_, ?_, ?_⟩ <;> (unfold FirstRefusal; decide +kernel)

theorem witness_untaken : (decidedB.ctx .b).live = true ∧ decidedB.serviceRefusal = none ∧ decidedB.ctx .a = .idle
    ∧ waitingB.ctx .b = .waitAisle leaving 3000 ∧ decidedB.ctx .b = .decided leaving 1500 ∧ leaving.card ≠ 1
    ∧ waitingB.running = true := by decide +kernel

theorem witness_image : open0.running = true ∧ open0.serviceRefusal = none ∧ open0.tariff.current = some tariff22
    ∧ open0.ctx .b = .idle ∧ tariff22.accepts { cardIn with check := 0 } = false
    ∧ tariff22.accepts (signed { blankCard with sequence := 65535 }) = true
    ∧ (signed { blankCard with sequence := 65535 }).sequence = 65535 := by decide +kernel

/-- The aisle with the card on its deny list. -/
def listing : State :=
  { open0 with deny := { open0.deny with entries := [{ card := 5301774, origin := .station, reason := 4, added := 0 }] } }

theorem witness_listed : listing.running = true ∧ listing.serviceRefusal = none ∧ listing.tariff.current = some tariff22
    ∧ listing.ctx .b = .idle ∧ tariff22.accepts cardIn = true ∧ cardIn.sequence ≠ 65535
    ∧ listing.deny.find cardIn.card = some { card := 5301774, origin := .station, reason := 4, added := 0 }
    ∧ CanAppend listing := by
  unfold CanAppend
  decide +kernel

/-- The image exit processing gives the card. -/
def exitImage : CardImage :=
  { cardIn with state := 0, balance := 990, sequence := 418, entryStation := 255, entryAisle := 0, daySpend := 260 }

/-- The aisle with the wait deadline 0. -/
def impatient (s : State) : State := { s with params := { s.params with waitDeadline := 0 } }

/-- The journal without a slot to promise. -/
def fullJournal (s : State) : State := { s with journal := { s.journal with free := 32, reserved := 0 } }

theorem witness_write_grant : ScreensTo open0 .b cardIn tariff22 260 {} exitImage ∧ open0.journal.canReserve = true
    ∧ ReservesAtOnce .b open0 ∧ ScreensTo serving1 .b cardIn tariff22 260 {} exitImage ∧ MustWait .b serving1
    ∧ serving1.journal.canReserve = true ∧ serving1.params.waitDeadline ≠ 0
    ∧ ScreensTo (impatient serving1) .b cardIn tariff22 260 {} exitImage ∧ (impatient serving1).params.waitDeadline = 0
    ∧ ScreensTo (fullJournal serving1) .b cardIn tariff22 260 {} exitImage
    ∧ (fullJournal serving1).journal.canReserve = false := by
  unfold ScreensTo ReservesAtOnce MustWait
  decide +kernel

theorem witness_journal_full : ScreensTo (fullJournal open0) .b cardIn tariff22 260 {} exitImage
    ∧ (fullJournal open0).journal.canReserve = false := by
  unfold ScreensTo
  decide +kernel

/-- An aisle of end B's direction in the state given, with `n` credits, end A waiting or not, end B at priority `p` and end
A at 4. -/
def own (st : AisleState) (n : Nat) (other : Bool) (p : Nat) : State :=
  { open0 with
    params := { open0.params with priority := { a := 4, b := p } }
    aisle := { arbiterReset with
      state := st, owned := some .bToA, waiting := { a := other, b := false }
      credits := (List.range n).map fun k => { fromEnd := .b, card := k, kind := .exit, deadline := some 9000 } } }

theorem witness_own_direction : ScreensTo (own .serving 2 false 4) .b cardIn tariff22 260 {} exitImage
    ∧ ReservesAtOnce .b (own .serving 2 false 4) ∧ (own .serving 2 false 4).journal.canReserve = true
    ∧ ScreensTo (own .violation 2 true 5) .b cardIn tariff22 260 {} exitImage
    ∧ ReservesAtOnce .b (own .violation 2 true 5) := by
  unfold ScreensTo ReservesAtOnce
  decide +kernel

theorem witness_own_direction_waits : ScreensTo (own .violation 3 false 4) .b cardIn tariff22 260 {} exitImage ∧ MustWait .b (own .violation 3 false 4)
    ∧ ScreensTo (own .serving 0 true 4) .b cardIn tariff22 260 {} exitImage ∧ MustWait .b (own .serving 0 true 4) := by
  unfold ScreensTo MustWait
  decide +kernel

/-- The aisle with the card's abandoned exit in its sighting table. -/
def unused : State :=
  { open0 with sightings := [
      { card := 5301774, kind := .exit, fromEnd := .b, outcome := .unused, oldSeq := 416, newSeq := 417
        balance := 1250, time := 60 * 28806419 }] }

theorem witness_retap : unused.running = true ∧ unused.serviceRefusal = none ∧ unused.tariff.current = some tariff22
    ∧ unused.ctx .b = .idle ∧ tariff22.accepts cardIn = true ∧ cardIn.sequence ≠ 65535
    ∧ unused.deny.find cardIn.card = none
    ∧ judge (unused.lookupSighting cardIn.card) (unused.presentation .b tariff22 cardIn) = .retap
    ∧ unused.journal.canReserve = true ∧ CanComplete unused ∧ ReservesAtOnce .b unused
    ∧ unused.aisle.waiting.get .b = false ∧ (fullJournal unused).serviceRefusal = none
    ∧ judge ((fullJournal unused).lookupSighting cardIn.card) ((fullJournal unused).presentation .b tariff22 cardIn) = .retap
    ∧ (fullJournal unused).journal.canReserve = false := by
  unfold CanComplete ReservesAtOnce
  decide +kernel

/-- The same in an aisle that serves end B. -/
theorem witness_retap_own : ReservesAtOnce .b { unused with aisle := (own .violation 2 false 4).aisle }
    ∧ judge (({ unused with aisle := (own .violation 2 false 4).aisle } : State).lookupSighting cardIn.card)
        (unused.presentation .b tariff22 cardIn) = .retap
    ∧ CanComplete { unused with aisle := (own .violation 2 false 4).aisle }
    ∧ (own .violation 2 false 4).aisle.waiting.get .b = false := by
  unfold CanComplete ReservesAtOnce
  decide +kernel

/-- The card's sighting entry with the outcome given. -/
def seen (o : Sighted) (newSeq : Nat) : Sighting :=
  { card := 5301774, kind := .exit, fromEnd := .b, outcome := o, oldSeq := 416, newSeq := newSeq
    balance := 1250, time := 60 * 28806419 }

/-- An IDLE aisle that has seen the card. -/
def sighted (o : Sighted) (newSeq : Nat) : State := { open0 with sightings := [seen o newSeq] }

/-- Each judgement of step 6 but CONTINUE, on the card of `cardIn`. -/
theorem witness_judgements :
    judge ((sighted .pending 418).lookupSighting 5301774) (open0.presentation .b tariff22 cardIn) = .cloneSuspect 418
    ∧ judge ((sighted .pending 417).lookupSighting 5301774) (open0.presentation .b tariff22 cardIn) = .alreadyGranted
    ∧ judge ((sighted .pending 417).lookupSighting 5301774) (open0.presentation .a tariff22 cardIn) = .passback
    ∧ judge ((sighted (.unconfirmed 20100) 417).lookupSighting 5301774) (open0.presentation .b tariff22 cardIn)
      = .recovery 20100
    ∧ (seen .used 418).newSeq ≠ 417 ∧ (seen (.unconfirmed 20100) 417).newSeq = (seen .used 418).oldSeq + 1
    ∧ judge ((sighted (.decided .a) 417).lookupSighting 5301774) (open0.presentation .b tariff22 cardIn)
      = .cloneSuspect 416 := by decide +kernel

/-- A deny list of `n` LOCAL entries. -/
def localDeny (n : Nat) : DenyList :=
  { open0.deny with
    entries := (List.range n).map fun k => { card := k + 1, origin := .aisle, reason := 1, added := 0 }
    localOrder := (List.range n).map fun k => k + 1 }

/-- Of 256 the local order is full. -/
theorem witness_local_deny (n : Nat) (h : n < 256) : (localDeny (n + 1)).WF
    ∧ (localDeny (n + 1)).localOrder = 1 :: (List.range n).map (fun k => k + 2)
    ∧ (localDeny (n + 1)).localOrder.length = n + 1 ∧ (localDeny (n + 1)).find 5301774 = none := by
  refine ⟨⟨?_, ?_, ?_, ?_, fun c => ?_⟩, ?_, ?_, ?_⟩
  · simp only [localDeny, List.map_map, List.pairwise_map]
    exact List.pairwise_lt_range.imp fun h => by simpa using h
  · simp only [localDeny, List.length_map, List.length_range]
    omega
  · simp only [localDeny, List.length_map, List.length_range]
    omega
  · simp only [localDeny]
    exact List.nodup_range.map fun a b h => by simpa using h
  · simp [localDeny, eq_comm, and_comm]
  · simp [localDeny, List.range_succ_eq_map]
  · simp [localDeny]
  · simp only [localDeny, DenyList.find, List.find?_eq_none, List.mem_map, List.mem_range]
    rintro x ⟨k, hk, rfl⟩
    simp only [beq_iff_eq]
    omega

theorem witness_judged : open0.running = true ∧ (sighted .pending 418).serviceRefusal = none
    ∧ (sighted .pending 418).tariff.current = some tariff22 ∧ (sighted .pending 418).ctx .b = .idle
    ∧ tariff22.accepts cardIn = true ∧ cardIn.sequence ≠ 65535 ∧ (sighted .pending 418).deny.find 5301774 = none
    ∧ NoWaits (sighted .pending 418) ∧ ((sighted .pending 418).ctx .a).tag ≠ .waitAisle ∧ CanAppend (sighted .pending 418)
    ∧ denyReset.WF ∧ denyReset.localOrder.length < 256 ∧ denyReset.entries.length < 8192 := by
  refine ⟨by decide, by decide +kernel, rfl, rfl, by decide +kernel, by decide +kernel, rfl, by unfold NoWaits; decide,
    by decide, by unfold CanAppend; decide, ⟨by decide, by decide, by decide, by decide, fun c => ?_⟩, by decide, by decide⟩
  simp [denyReset]

/-- The card presented at end A while its own exit waits at end B. -/
theorem witness_judged_waiting : waitingB.running = true ∧ waitingB.serviceRefusal = none
    ∧ waitingB.ctx .a = .idle ∧ waitingB.ctx .b = .waitAisle leaving 3000 ∧ leaving.card = cardIn.card
    ∧ waitingB.aisle.waiting.get .a = false ∧ CanAppend waitingB ∧ 1 ≤ waitingB.journal.reserved
    ∧ waitingB.deny.entries.length < 8192
    ∧ judge (waitingB.lookupSighting 5301774) (waitingB.presentation .a tariff22 cardIn) = .cloneSuspect 417 := by
  unfold CanAppend
  decide +kernel

theorem witness_recovery : (sighted (.unconfirmed 20100) 417).serviceRefusal = none
    ∧ (sighted (.unconfirmed 20100) 417).journal.canReserve = true ∧ CanComplete (sighted (.unconfirmed 20100) 417)
    ∧ ReservesAtOnce .b (sighted (.unconfirmed 20100) 417)
    ∧ (sighted (.unconfirmed 20100) 417).aisle.waiting.get .b = false := by
  unfold CanComplete ReservesAtOnce
  decide +kernel

/-- The decided exit, HELD. -/
def heldB : State :=
  { decidedB with au := { authReset with ctx := { a := .idle, b := .decided { leaving with flags := { held := true } } 9 } } }

/-- The decided exit in an aisle that a fault has taken out of service. -/
def faultedB : State :=
  { decidedB with
    aisle := { decidedB.aisle with state := .outOfService }, drive := { decidedB.drive with flap := .fault } }

theorem witness_commit : decidedB.running = true ∧ decidedB.ctx .b = .decided leaving 1500
    ∧ leaving.image = some { cardIn with state := 0, balance := 1020, sequence := 418 } ∧ CanComplete decidedB
    ∧ leaving.flags.held = false ∧ decidedB.aisle.state = .serving ∧ decidedB.aisle.owned = some (endDir .b)
    ∧ decidedB.aisle.waiting.get .b = false
    ∧ heldB.ctx .b = .decided { leaving with flags := { held := true } } 9 ∧ CanComplete heldB ∧ NoWaits heldB
    ∧ faultedB.running = true ∧ faultedB.aisle.state = .outOfService ∧ CanComplete faultedB ∧ NoWaits faultedB
    ∧ CanAppend faultedB ∧ 1 ≤ faultedB.journal.reserved ∧ NoWaits decidedB := by
  unfold CanComplete CanAppend NoWaits
  decide +kernel

/-- The state with records lost and this much of the free count left. -/
def lossy (s : State) (free : Nat) : State := { s with journal := { s.journal with dropped := 2, free := free } }

/-- The room and its want, for a reserved record and for an unreserved one, after a loss and without one. -/
theorem witness_room : HasRoom 1 (lossy decidedB 2).journal ∧ ¬HasRoom 1 (lossy decidedB 1).journal
    ∧ 1 ≤ (lossy decidedB 2).journal.reserved ∧ (lossy decidedB 2).journal.lastSeq < 4294967295
    ∧ HasRoom 1 (lossy faultedB 2).journal ∧ ¬HasRoom 1 (lossy faultedB 1).journal
    ∧ HasRoom 1 open0.journal ∧ ¬HasRoom 1 ({ open0.journal with free := 0 } : Journal)
    ∧ HasRoom 2 (lossy open0 2).journal ∧ ¬HasRoom 2 (lossy open0 1).journal
    ∧ HasRoom 2 (lossy serving1 2).journal ∧ ¬HasRoom 2 (lossy serving1 1).journal := by decide

/-- R150's table, reserved: DROPPED and the EXIT, or the EXIT alone with the count kept. -/
theorem test_reserved_after_loss :
    (after (.commit .b 5301774) (lossy decidedB 2)).journal.queue.map (fun r => (r.sequence, r.data.kind))
      = [(20117, .dropped), (20118, .exit)]
    ∧ (after (.commit .b 5301774) (lossy decidedB 1)).journal.queue.map (fun r => (r.sequence, r.data.kind))
      = [(20117, .exit)]
    ∧ (after (.commit .b 5301774) (lossy decidedB 1)).journal.dropped = 2 := by decide +kernel

/-- R108: the first credit opens the flaps of a NORMALLY_CLOSED aisle. -/
theorem test_commit_opens : decidedB.aisle.credits = [] ∧ decidedB.drive.flap = .closed ∧ decidedB.drive.clearing = false
    ∧ (after (.commit .b 5301774) decidedB).drive.command = .toOpen
    ∧ (after (.commit .b 5301774) decidedB).drive.flap = .opening := by decide +kernel

theorem witness_abort : decidedB.aisle.waiting.get .b = false ∧ decidedB.aisle.waiting.get End.b.other = false
    ∧ waitingB.running = true ∧ waitingB.ctx .b = .waitAisle leaving 3000 ∧ waitingB.aisle.waiting.get End.b.other = false := by
  decide +kernel

/-- The exit of `leaving` waits at end B for room behind its own end's credits, the other end's slot filled or not. -/
def behind (n : Nat) (other : Bool) : State :=
  { waitingB with
    au := { authReset with ctx :=
      { a := if other then .waitAisle { leaving with card := 8 } 1 else .idle, b := .waitAisle leaving 3000 } }
    aisle := { arbiterReset with
      state := .serving, owned := some .bToA, waiting := { a := other, b := true }
      credits := (List.range n).map fun k => { fromEnd := .b, card := k, kind := .exit, deadline := some 9 } } }

/-- The flaps close on a vacant aisle for which end B waits. -/
def freeing : State :=
  { behind 0 false with
    aisle := { (behind 0 false).aisle with owned := some .aToB }
    drive := { open0.drive with
      flap := .closing, motion := some { duty := 80, remaining := 900, blanking := none, release := false }
      closedLimit := filterAt false } }

/-- The same free point, with a re-tap waiting. -/
def retapping : State :=
  { freeing with au := { freeing.au with ctx :=
      { a := .idle, b := .waitAisle { leaving with kind := .retap, image := none } 3000 } } }

/-- R17, R108: the re-tap's credit opens the flaps. -/
theorem test_retap_granted : retapping.ctx .b = .waitAisle { leaving with kind := .retap, image := none } 3000
    ∧ CanComplete retapping ∧ retapping.aisle.waiting.get .a = false
    ∧ (after (.flapLimitReached .closedLimit) retapping).drive.command = .toOpen
    ∧ ((after (.flapLimitReached .closedLimit) retapping).aisle.credits.map Credit.card) = [5301774] := by
  unfold CanComplete
  decide +kernel

theorem witness_retap_waits : SlotsMatch retapping ∧ retapping.drive.flap = .closing ∧ retapping.aisle.credits = [] :=
  ⟨slots_of_waiting _ _ rfl rfl rfl, by decide, by decide⟩

theorem witness_waits_granted : (behind 3 false).running = true ∧ SlotsMatch (behind 3 false) ∧ SlotsMatch (behind 2 true)
    ∧ SlotsMatch freeing
    ∧ (behind 3 false).ctx .b = .waitAisle leaving 3000 ∧ CanComplete (behind 3 false) ∧ leaving.flags.held = false
    ∧ (behind 3 false).params.serviceMode = .inService ∧ (behind 3 false).aisle.reservation = none
    ∧ (behind 3 false).aisle.owned = some (endDir .b) ∧ (behind 3 false).aisle.credits.length = 3
    ∧ (behind 3 false).aisle.waiting.get .a = false ∧ (behind 2 true).aisle.credits ≠ []
    ∧ (behind 2 true).ctx .a = .waitAisle { leaving with card := 8 } 1
    ∧ freeing.params.aisleMode = .normallyClosed ∧ freeing.aisle.state = .serving ∧ freeing.aisle.credits = []
    ∧ freeing.drive.flap = .closing ∧ freeing.drive.motion.map Motion.release = some false
    ∧ freeing.drive.command = .toClose ∧ freeing.drive.clearing = false ∧ freeing.ctx .b = .waitAisle leaving 3000
    ∧ freeing.aisle.waiting.get .a = false := by
  refine ⟨by decide, slots_of_waiting _ _ rfl rfl rfl, ⟨fun e => by cases e <;> decide, fun e x d h => ?_⟩,
    slots_of_waiting _ _ rfl rfl rfl, rfl, ?_⟩
  · cases e <;> (obtain ⟨rfl, -⟩ : _ = x ∧ _ = d := by simpa [behind, State.ctx, PerEnd.get] using h) <;> rfl
  unfold CanComplete
  decide +kernel

/-- An insert of the waiting card is the next entry of the frame in hand. -/
def inserting : State :=
  { held waitingB 11 with deny := { waitingB.deny with
      job := some { adding := true, generation := 1, rest := [⟨5301774, 4⟩], notAdded := 0 } } }

theorem witness_waits_refused : waitingB.running = true ∧ SlotsMatch (moving waitingB .opening) ∧ SlotsMatch inserting
    ∧ (moving waitingB .opening).drive.flap = .opening ∧ waitingB.aisle.state ≠ .emergency
    ∧ waitingB.emergency.filtered = false ∧ waitingB.emergency.stage = none ∧ PortFree waitingB
    ∧ waitingB.aisle.state = .serving
    ∧ inserting.ctx .b = .waitAisle leaving 3000 ∧ (inserting.ctx .a).tag ≠ .waitAisle
    ∧ inserting.deny.job = some { adding := true, generation := 1, rest := ⟨5301774, 4⟩ :: [], notAdded := 0 }
    ∧ leaving.card = 5301774 ∧ inserting.deny.find 5301774 = none ∧ inserting.deny.entries.length < 8192
    ∧ CanAppend inserting ∧ 1 ≤ inserting.journal.reserved := by
  refine ⟨by decide, slots_of_waiting _ _ rfl rfl rfl, slots_of_waiting _ _ rfl rfl rfl, ?_⟩
  unfold PortFree CanAppend
  decide +kernel

/-- The states above, and one with no deny update in hand, have the buffer match what is in hand. -/
theorem witness_buffer : BufferMatches (moving waitingB .opening) ∧ BufferMatches waitingB ∧ BufferMatches inserting := by
  refine ⟨⟨by decide, by decide, by decide, by decide, by decide⟩, ⟨by decide, by decide, by decide, by decide, by decide⟩,
    by decide, by decide, fun _ => ⟨by decide, _, rfl, .inl rfl⟩, by decide, by decide⟩

theorem witness_fare : (65535 ≤ 65535 ∧ 250 ≤ 250 ∧ 100 ≤ 100 ∧ 50 ∈ [1, 2, 5, 10, 20, 50, 100]) ∧ 0 < 7 := by simp

theorem witness_exit : exitFare
    { image := cardIn, now := 60 * 28806420, today := 20004, tariff := tariff22, station := 41, aisle := 3, windows := [] }
    = .grant 260 {} exitImage := by decide +kernel

/-- The inputs of an entry at station 41, of the class given. -/
def entering (i : CardImage) (ws : List Window) : FareInput :=
  { image := i, now := 60 * 28806420, today := 20004, tariff := tariff22, station := 41, aisle := 3, windows := ws }

/-- Cards expired, outside, IN here, IN elsewhere with and without a window, and too poor. -/
theorem witness_entry : (3 : Int) < (entering cardOut []).today ∧ (entering cardOut []).row.freeTravel = false
    ∧ (entering cardOut []).image.state ≠ 1
    ∧ ((entering cardOut []).row.minEntry : Int) ≤ (entering cardOut []).image.balance - 0
    ∧ (cardIn.state = 1 ∧ (12 : Nat) ≠ 41) ∧ (28806420 - 28806419 ≤ tariff22.retapWindow)
    ∧ (12 = 12 ∧ (28806380 ≤ cardIn.entryTime ∧ cardIn.entryTime ≤ 28806390))
    ∧ ((cardIn.balance : Int) - 600 ≥ 150 ∧ (700 : Int) - 600 < 150)
    ∧ (200 : Int) = ((entering cardOut []).row.overdraft : Int) := by decide +kernel

/-- Entry and exit stations known, an unknown origin, an exit station without a zone; the bands at their first minutes and
on an entry day before the epoch. -/
theorem witness_base_and_band : BaseIs (entering cardIn []) 320 false
    ∧ BaseIs (entering { cardIn with entryStation := 60 } []) 410 true
    ∧ BaseIs { entering cardIn [] with station := 99 } 410 true
    ∧ BandIs tariff22 28806385 20004 625 ⟨600, 80⟩ ∧ BandIs tariff22 28806360 20004 600 ⟨600, 80⟩
    ∧ BandIs tariff22 28806359 20004 599 ⟨420, 120⟩
    ∧ BandIs { tariff22 with rollover := 180 } 179 (-1) 1439 ⟨1140, 100⟩ := by
  unfold BaseIs BandIs
  refine ⟨?_, ?_, ?_, ?_, ?_, ?_, ?_⟩ <;> decide +kernel

/-- Durations at the grace, the maximum journey and the skew tolerance, and entries inside and outside a window. -/
theorem witness_durations : (28806420 - 28806400 ≤ tariff22.grace ∧ tariff22.grace < 28806420 - 28806399)
    ∧ (28806420 - 28806240 ≤ tariff22.maxJourney ∧ tariff22.maxJourney < 28806420 - 28806239)
    ∧ (¬28806420 + tariff22.skewTolerance < 28806425 ∧ 28806420 + tariff22.skewTolerance < 28806426)
    ∧ (∃ w ∈ (entering cardIn [⟨255, 28806200, 28806239⟩]).windows, (w.station = 12 ∨ w.station = 255)
      ∧ w.fromMinute ≤ 28806239 ∧ 28806239 ≤ w.toMinute) ∧ (entering cardIn []).windows = [] := by decide

/-- Cards outside, free, able to pay, paying into overdraft, and too poor by one. -/
theorem witness_exits : cardOut.state = 0 ∧ cardIn.state ≠ 0 ∧ (entering cardIn []).row.freeTravel = false
    ∧ ({ entering cardIn [] with tariff := { tariff22 with classes :=
        [{ discount := 0, cap := 0, overdraft := 200, minEntry := 0, freeTravel := true }] } } : FareInput).row.freeTravel = true
    ∧ min (journeyFare (entering cardIn [])).1 65535 = 260 ∧ (entering cardIn []).row.cap = 900
    ∧ ((0 : Int) ≤ 260 - 260 ∧ (60 : Int) - 260 < 0 ∧ -((entering cardIn []).row.overdraft : Int) ≤ 60 - 260
      ∧ (59 : Int) - 260 < -((entering cardIn []).row.overdraft : Int)) := by decide +kernel

/-! ### The aisle and the flaps -/

theorem witness_zone : open0.running = true ∧ open0.monitor.zones.zF = false
    ∧ open0.monitor.seen ⟨true, true, false⟩ = (true, false) ∧ open0.monitor.seen ⟨false, true, true⟩ = (false, true)
    ∧ open0.monitor.seen ⟨true, true, true⟩ = (true, true) ∧ open0.monitor.seen ⟨false, true, false⟩ = (false, false)
    ∧ (withZones open0 ⟨true, true, false⟩ (some .a)).monitor.zones.zF = true := by decide

/-- The aisle of `s` in NORMALLY_OPEN mode. -/
def openMode (s : State) : State := { s with params := { s.params with aisleMode := .normallyOpen } }

/-- A vacant SERVING aisle with a body in the flap zone, the flaps open. -/
def lingering (s : State) : State :=
  withZones { s with aisle := { serving1.aisle with credits := [] } } ⟨false, true, false⟩ (some .a)

theorem witness_delays_start : (⟨false, false, false⟩ : Zones) ≠ (lingering serving1).monitor.zones
    ∧ NoCrossing (lingering serving1).monitor ⟨false, false, false⟩ ∧ Vacant (lingering serving1)
    ∧ CloseDelayAwaits (lingering serving1) ∧ (lingering serving1).running = true
    ∧ (lingering (openMode serving1)).params.aisleMode = .normallyOpen
    ∧ (lingering (openMode serving1)).aisle.state = .serving ∧ Vacant (lingering (openMode serving1))
    ∧ (withZones (violatedAt .aToB) ⟨false, true, false⟩ none).aisle.state = .violation
    ∧ (violatedAt .aToB).params.reopenDelay ≠ 0 ∧ (violatedAt .aToB).running = true := by
  refine ⟨by decide, ?_, by unfold Vacant NoWaits; decide, by unfold CloseDelayAwaits FollowsOpen; decide, by decide, by decide,
    by decide, by unfold Vacant NoWaits; decide, by decide, by decide, by decide⟩
  intro d
  unfold CrossesAs
  cases d <;> decide

/-- R108: the flap zone of a vacant aisle clears, and the close delay starts. R109: the NORMALLY_OPEN aisle is IDLE. -/
theorem test_delays_start : (after (.zoneChange ⟨false, false, false⟩) (lingering serving1)).aisle.closeDelay = some 400
    ∧ (after (.zoneChange ⟨false, false, false⟩) (lingering (openMode serving1))).aisle.state = .idle := by decide

theorem witness_crossing_without_effect :
    CrossesAs (withZones evacuated ⟨true, true, false⟩ (some .a)).monitor ⟨false, false, true⟩ .aToB
    ∧ evacuated.aisle.state = .emergency ∧ NoWaits evacuated ∧ evacuated.running = true := by
  unfold CrossesAs NoWaits
  decide

theorem witness_crossing_out_of_service :
    CrossesAs (withZones faultedB ⟨true, true, false⟩ (some .a)).monitor ⟨false, false, true⟩ .aToB
    ∧ faultedB.aisle.state = .outOfService ∧ faultedB.aisle.credits = []
    ∧ CrossesAs (withZones (faulted7 serving1) ⟨true, true, false⟩ (some .a)).monitor ⟨false, false, true⟩ .aToB := by
  unfold CrossesAs
  decide

/-- A body leaves the flap zone towards B of an aisle whose clearing motion waited for it, the closed limit active. -/
def clearingBehind : State :=
  withZones { open0 with aisle := arbiterReset, drive := { open0.drive with flap := .fault, clearing := true } }
    ⟨true, true, false⟩ (some .a)

theorem witness_crossing_clears_fault : CrossesAs clearingBehind.monitor ⟨false, false, true⟩ .aToB ∧ NoWaits clearingBehind
    ∧ clearingBehind.running = true ∧ clearingBehind.aisle.state = .outOfService ∧ clearingBehind.aisle.credits = []
    ∧ clearingBehind.drive.flap = .fault ∧ clearingBehind.drive.clearing = true
    ∧ clearingBehind.drive.closeHold = false ∧ clearingBehind.drive.closedLimit.accepted = true
    ∧ faultedB.drive.clearing = false := by
  unfold CrossesAs NoWaits
  decide

/-- R112, R119, R120, R126: the clearing motion begins at its limit, and the aisle is IDLE in the same event. -/
theorem test_crossing_clears_fault : (after (.zoneChange ⟨false, false, true⟩) clearingBehind).aisle.state = .idle
    ∧ (after (.zoneChange ⟨false, false, true⟩) clearingBehind).drive.clearing = false
    ∧ (after (.zoneChange ⟨false, false, true⟩) clearingBehind).drive.flap = .closed := by decide

theorem witness_crossing_with_credit : (faulted7 serving1).aisle.state = .outOfService
    ∧ (faulted7 serving1).aisle.owned = some .aToB ∧ (faulted7 serving1).aisle.credits ≠ []
    ∧ CloseDelayAwaits (withZones serving1 ⟨true, true, false⟩ (some .a)) ∧ serving1.aisle.reservation = none := by
  unfold CloseDelayAwaits FollowsOpen
  decide

/-- A body that came from Z_A leaves the flap zone into Z_B. -/
theorem witness_crossing :
    CrossesAs (withZones serving1 ⟨true, true, false⟩ (some .a)).monitor ⟨false, false, true⟩ .aToB
    ∧ (withZones serving1 ⟨true, true, false⟩ (some .a)).aisle.credits
      = { fromEnd := .a, card := 7, kind := .entry, deadline := some 4000 } :: []
    ∧ NoWaits (withZones serving1 ⟨true, true, false⟩ (some .a)) ∧ serving1.aisle.owned = some .aToB
    ∧ serving1.aisle.state = .serving ∧ serving1.running = true := by
  unfold CrossesAs NoWaits
  decide

/-- The same crossing in an IDLE aisle, behind the last credit, and against the owned direction. -/
theorem witness_violation :
    CrossesAs (withZones open0 ⟨true, true, false⟩ (some .a)).monitor ⟨false, false, true⟩ .aToB ∧ NoWaits open0
    ∧ CanAppend open0 ∧ open0.params.reopenDelay ≠ 0 ∧ open0.aisle.state = .idle
    ∧ decidedB.aisle.state = .serving ∧ decidedB.aisle.credits = []
    ∧ (∃ o, decidedB.aisle.owned = some o ∧ o ≠ .aToB) ∧ CanAppend decidedB ∧ NoWaits decidedB
    ∧ CrossesAs (withZones decidedB ⟨true, true, false⟩ (some .b)).monitor ⟨true, false, false⟩ .bToA
    ∧ decidedB.aisle.owned = some .bToA := by
  refine ⟨?_, ?_, ?_, ?_, ?_, ?_, ?_, ⟨.bToA, ?_, ?_⟩, ?_, ?_, ?_, ?_⟩ <;>
    first | decide | (unfold CrossesAs; decide) | (unfold NoWaits; decide) | (unfold CanAppend; decide)

theorem witness_aisle_timers : serving1.running = true
    ∧ serving1.aisle.credits = { fromEnd := .a, card := 7, kind := .entry, deadline := some 4000 } :: []
    ∧ NoWaits serving1 ∧ CanAppend serving1
    ∧ (withZones open0 ⟨false, true, false⟩ (some .unknown)).monitor.loiter ≠ none
    ∧ (withZones open0 ⟨false, true, false⟩ (some .unknown)).aisle.state ≠ .emergency
    ∧ NoWaits open0 ∧ CanAppend open0
    ∧ (withZones evacuated ⟨false, true, false⟩ (some .unknown)).monitor.loiter ≠ none
    ∧ evacuated.aisle.state = .emergency ∧ evacuated.running = true := by
  unfold NoWaits CanAppend
  decide

/-- R150's table, unreserved: DROPPED and the LOITER record, or neither and the count one higher. -/
theorem test_unreserved_after_loss :
    (after .loiter (lossy (withZones open0 ⟨false, true, false⟩ (some .unknown)) 2)).journal.queue.map
        (fun r => (r.sequence, r.data.kind)) = [(20117, .dropped), (20118, .loiter)]
    ∧ (after .loiter (lossy (withZones open0 ⟨false, true, false⟩ (some .unknown)) 1)).journal.dropped = 3 := by
  decide +kernel

/-- A vacant aisle in SERVING with its close delay running. -/
def emptied1 : State := { serving1 with aisle := { serving1.aisle with credits := [], closeDelay := some 1 } }

/-- A violation whose reopen delay runs, the flaps closed, with a credit or with none. -/
def violated (cs : List Credit) : State :=
  { open0 with aisle := { arbiterReset with
      state := .violation, owned := cs.head?.map fun c => endDir c.fromEnd, credits := cs, reopenDelay := some 1 } }

/-- A violation that ends with credits left, in both modes, and with a reservation alone. -/
theorem witness_violation_ends : (violated serving1.aisle.credits).params.aisleMode = .normallyClosed
    ∧ (violated serving1.aisle.credits).drive.clearing = false
    ∧ (openMode (violated [])).params.aisleMode = .normallyOpen ∧ NoWaits (openMode (violated []))
    ∧ ({ violated [] with aisle := { (violated []).aisle with reservation := some .a } } : State).aisle.reservation ≠ none := by
  unfold NoWaits
  decide

/-- R106: the flaps open again for the credits a violation leaves. -/
theorem test_violation_ends : (after .reopenDelayExpiry (violated serving1.aisle.credits)).drive.command = .toOpen
    ∧ (after .reopenDelayExpiry (violated serving1.aisle.credits)).drive.flap = .opening := by decide

theorem witness_delays : NoWaits emptied1 ∧ emptied1.params.aisleMode = .normallyClosed ∧ Vacant emptied1
    ∧ emptied1.aisle.closeDelay ≠ none ∧ emptied1.running = true
    ∧ (violated []).running = true ∧ NoWaits (violated []) ∧ (violated []).aisle.state = .violation
    ∧ (violated []).aisle.reopenDelay ≠ none ∧ (violated []).drive.flap = .closed ∧ (violated []).drive.command = .toClose
    ∧ (violated serving1.aisle.credits).aisle.credits ≠ [] ∧ (violated []).aisle.credits = []
    ∧ (violated []).aisle.reservation = none := by
  unfold Vacant NoWaits
  decide

/-- A credit at the head while the flaps open. -/
def opening1 : State :=
  { moving serving1 .opening with aisle := { serving1.aisle with
      credits := [{ fromEnd := .a, card := 7, kind := .entry, deadline := none }] } }

/-- The flaps closing in a vacant aisle. -/
def closing1 : State :=
  { moving emptied1 .closing with
    aisle := { emptied1.aisle with closeDelay := none }
    drive := { (moving emptied1 .closing).drive with command := .toClose } }

theorem witness_limits : opening1.running = true
    ∧ opening1.drive.motion = some { duty := 80, remaining := 900, blanking := none, release := false }
    ∧ opening1.drive.flap = .opening ∧ ServingCredit opening1 ∧ FollowsOpen opening1
    ∧ opening1.aisle.credits = { fromEnd := .a, card := 7, kind := .entry, deadline := none } :: []
    ∧ closing1.running = true
    ∧ closing1.drive.motion = some { duty := 80, remaining := 900, blanking := none, release := false }
    ∧ closing1.drive.flap = .closing ∧ closing1.drive.command = .toClose ∧ closing1.drive.clearing = false
    ∧ closing1.params.aisleMode = .normallyClosed ∧ closing1.aisle.state = .serving ∧ Vacant closing1
    ∧ closing1.params.serviceMode = .inService := by
  unfold ServingCredit FollowsOpen Vacant NoWaits
  decide

/-- A clearing motion, with the reservation of a DECIDED context or none. -/
def clearing1 (s : State) : State :=
  { moving s .closing with
    aisle := { s.aisle with state := .outOfService }, drive := { (moving s .closing).drive with clearing := true } }

/-- A release motion. -/
def releasing1 : State :=
  { evacuated with
    drive := { evacuated.drive with
      flap := .opening, openLimit := filterAt false
      motion := some { duty := 80, remaining := 900, blanking := none, release := true } }
    emergency := { evacuated.emergency with stage := some .releasing } }

theorem witness_clearing_and_release : (clearing1 decidedB).running = true
    ∧ (clearing1 decidedB).drive.motion = some { duty := 80, remaining := 900, blanking := none, release := false }
    ∧ (clearing1 decidedB).drive.flap = .closing ∧ (clearing1 decidedB).drive.command = .toClose
    ∧ (clearing1 decidedB).drive.clearing = true ∧ (clearing1 decidedB).aisle.state = .outOfService
    ∧ (clearing1 decidedB).params.aisleMode = .normallyClosed ∧ NoWaits (clearing1 decidedB)
    ∧ (clearing1 decidedB).aisle.credits = [] ∧ (clearing1 decidedB).aisle.reservation ≠ none
    ∧ (clearing1 open0).aisle.reservation = none ∧ releasing1.running = true ∧ releasing1.drive.flap = .opening
    ∧ releasing1.drive.motion = some { duty := 80, remaining := 900, blanking := none, release := true }
    ∧ releasing1.aisle.state = .emergency ∧ releasing1.emergency.stage = some .releasing := by
  unfold NoWaits
  decide

theorem witness_lost_limits : open0.running = true ∧ open0.drive.pause = none ∧ open0.drive.flap = .closed ∧ AtRest open0
    ∧ open0.drive.clearing = false ∧ serving1.drive.flap = .opened ∧ ServingCredit serving1 ∧ FollowsOpen serving1
    ∧ serving1.drive.pause = none ∧ evacuated.drive.flap = .released ∧ evacuated.aisle.state = .emergency
    ∧ evacuated.drive.pause = none := by
  unfold ServingCredit FollowsOpen AtRest Vacant NoWaits
  decide

/-- The third stop of an opening motion, and a closing motion at rest. -/
theorem witness_failed_motions : opening1.running = true ∧ NoWaits opening1 ∧ opening1.drive.flap = .opening
    ∧ opening1.params.threshold < 1023 ∧ opening1.drive.retryCount < 2
    ∧ 2 ≤ ({ opening1 with drive := { opening1.drive with retryCount := 2 } } : State).drive.retryCount
    ∧ (moving open0 .closing).drive.flap = .closing ∧ AtRest (moving open0 .closing)
    ∧ (moving open0 .closing).drive.openLimit.accepted = false := by
  unfold AtRest Vacant NoWaits
  decide

/-- The flaps open in an IDLE aisle with the close hold running. -/
def holding : State :=
  { open0 with drive := { open0.drive with
      flap := .opened, closeHold := true, holdTimer := some 1, openLimit := filterAt true, closedLimit := filterAt false } }

/-- The flaps stopped for a retry pause under a credit. -/
def pausing : State :=
  { opening1 with drive := { opening1.drive with flap := .stopped, motion := none, pause := some 1 } }

theorem witness_drive_timers : holding.running = true ∧ holding.drive.holdTimer ≠ none ∧ AtRest holding
    ∧ holding.drive.flap = .opened ∧ holding.monitor.zones.zF = false ∧ holding.drive.closedLimit.accepted = false
    ∧ holding.drive.clearing = false ∧ pausing.running = true ∧ pausing.drive.pause ≠ none
    ∧ pausing.drive.flap = .stopped ∧ ServingCredit pausing ∧ FollowsOpen pausing
    ∧ pausing.drive.openLimit.accepted = false := by
  unfold ServingCredit FollowsOpen AtRest Vacant NoWaits
  decide

/-! ### Time and emergencies -/

/-- The limits read inactive since the last sample, in the run state given. -/
def leftLimits (r : RunState) : State :=
  { inState open0 r with
    store := { open0.store with run := r, pfw := filterAt true }
    drive := { open0.drive with flap := .stopped, closedLimit := { raw := false, prev := false, accepted := true } } }

/-- R128, R133: the limit filters sample in HOLDOVER too, and the drive stays as it is; in HALT they stand. -/
theorem test_limits_sampled : (afterMs (leftLimits (.holdover true))).drive.closedLimit = filterAt false
    ∧ (afterMs (leftLimits (.holdover true))).drive.flap = .stopped
    ∧ (afterMs (leftLimits .halt)).drive.closedLimit.accepted = true := by decide

/-- RUN without supply, with PFW newly asserted, and outside RUN; a commit deadline at its end; and a quiet millisecond. -/
theorem witness_milliseconds : open0.pending = [] ∧ Quiet open0
    ∧ ({ open0 with store := { open0.store with supply := false } } : State).store.supply = false
    ∧ decidedB.running = true ∧ decidedB.store.pfw.raw = false ∧ decidedB.ctx .b = .decided leaving 1500 ∧ 1 < 1500
    ∧ heldB.ctx .b = .decided { leaving with flags := { held := true } } 9
    ∧ ({ decidedB with store := { decidedB.store with pfw := { raw := true, prev := true, accepted := false } } } :
        State).running = true
    ∧ (inState open0 .starting).store.run ≠ .run ∧ (inState open0 .halt).store.run = .halt
    ∧ (open0.store.pfw.raw = open0.store.pfw.prev → open0.store.pfw.accepted = open0.store.pfw.raw)
    ∧ 1 < open0.drive.bg1.remaining ∧ 1 < open0.drive.bg2.remaining := by
  refine ⟨rfl, ⟨by decide, ?_⟩, by decide +kernel⟩
  simp only [Steady, NotDue]
  repeat' apply And.intro
  all_goals first
    | decide
    | (intro e; cases e <;> exact trivial)

theorem witness_seconds : 4294967295 ≤ ({ open0 with time := { open0.time with counter := 4294967295 } } : State).time.counter
    ∧ ({ open0 with time := { open0.time with counter := 4294967294 } } : State).time.counter = 4294967294
    ∧ open0.time.counter < 4294967294 ∧ open0.running = true ∧ open0.time.valid = true
    ∧ NoneDue (open0.time.counter + 1) open0 ∧ open0.working = true ∧ (inState open0 .halt).working = false
    ∧ ({ open0 with time := { open0.time with valid := false } } : State).time.valid = false := by
  unfold NoneDue
  decide

/-- The last second of day 20,004, a READY tariff waiting for the next day. -/
def eve : State :=
  { open0 with
    time := { open0.time with counter := 86400 * 20005 - 1 }
    tariff := { open0.tariff with pending := { open0.tariff.pending with
      state := .ready, image := some { tariff22 with effectiveDay := 20005 } } } }

/-- An aisle with an amnesty window more than 2880 minutes past, one at 2880, on the day in force or on an older one. -/
def spared (day : Int) : State :=
  { open0 with
    time := { open0.time with day := some day }
    emergency := { open0.emergency with amnesty := [⟨41, 5, 28806420 - 2881⟩, ⟨41, 5, 28806420 - 2880⟩] } }

theorem witness_rollover : (spared 20003).time.day ≠ some (opDay (((spared 20003).time.counter + 1) / 60) (spared 20003).rollover)
    ∧ (spared 20004).time.day = some (opDay (((spared 20004).time.counter + 1) / 60) (spared 20004).rollover)
    ∧ PortFree (spared 20003) ∧ (28806420 - 2881) + 2880 < ((spared 20003).time.counter + 1) / 60
    ∧ (spared 20003).time.valid = true ∧ (spared 20003).working = true := by
  unfold PortFree
  decide

/-- R143: at a rollover the window of 2881 minutes goes and that of 2880 stays; without one both stay. -/
theorem test_rollover : (after .secondTick (spared 20003)).emergency.amnesty = [⟨41, 5, 28806420 - 2880⟩]
    ∧ (after .secondTick (spared 20004)).emergency.amnesty.length = 2 := by decide

theorem witness_activation : eve.running = true ∧ eve.time.valid = true ∧ eve.time.counter < 4294967294
    ∧ eve.tariff.pending.state = .ready ∧ eve.tariff.pending.image = some { tariff22 with effectiveDay := 20005 }
    ∧ (20005 : Int) ≤ opDay ((eve.time.counter + 1) / 60) 0 ∧ (20005 : Int) ≤ opDay (86400 * 20005 / 60) 0
    ∧ NoneDue eve.time.counter eve ∧ PortFree eve ∧ NoneDue (86400 * 20005 - 1) eve := by
  unfold NoneDue PortFree
  decide +kernel

/-- R35: the second that begins the effective day activates the tariff. -/
theorem test_activation : (after .secondTick eve).tariff.current.map Tariff.effectiveDay = some 20005
    ∧ (after .secondTick eve).tariff.queue = [.marker .one 1 22] := by decide +kernel

theorem witness_time_set : 86399 < 86400 ∧ 4294967294 < 4294967295 ∧ 86400 ≤ 86400 ∧ 4294967294 ≤ 4294967294
    ∧ CanAppend open0 ∧ NoneDue 86400 open0 := by
  unfold CanAppend NoneDue
  decide

/-- A FAULT, and an emergency, of an aisle with a credit; and a FAULT for which the pool has no room. -/
theorem witness_credits_lost : (moving serving1 .opening).journal.dropped = 0 ∧ NoWaits (moving serving1 .opening)
    ∧ (moving serving1 .opening).journal.room (1 + (moving serving1 .opening).aisle.credits.length) = true
    ∧ (moving serving1 .opening).drive.flap = .opening ∧ (moving serving1 .opening).aisle.state ≠ .emergency
    ∧ ({ moving serving1 .opening with journal := { open0.journal with free := 0 } } : State).journal.room 1 = false
    ∧ serving1.emergency.filtered = false ∧ serving1.emergency.stage = none ∧ CanAppend serving1
    ∧ serving1.aisle.credits ≠ [] := by
  unfold CanAppend NoWaits
  decide

/-- R112: a FAULT record, then one ABANDONED record for the credit; R113: EMERGENCY_START alone. -/
theorem test_credits_lost :
    (after .motionTimeout (moving serving1 .opening)).journal.queue.map (fun r => r.data.kind) = [.fault, .abandoned]
    ∧ (after .emergAsserted serving1).journal.queue.map (fun r => r.data.kind) = [.emergencyStart] := by decide

theorem witness_emergency_starts : NoWaits open0 ∧ open0.running = true ∧ open0.emergency.filtered = false
    ∧ open0.emergency.stage = none ∧ CanAppend open0 ∧ open0.aisle.credits = []
    ∧ NoWaits evacuated ∧ evacuated.emergency.stage ≠ none ∧ evacuated.emergency.filtered = false
    ∧ evacuated.running = true ∧ PortFree evacuated := by
  unfold NoWaits CanAppend PortFree
  decide

/-- An evacuation with its marks, filtered input and release timer as given. -/
def evacuation (input station filtered : Bool) (timer : Option Nat) : State :=
  { evacuated with emergency := { evacuated.emergency with
      inputMark := input, stationMark := station, filtered := filtered, releaseTimer := timer } }

theorem witness_emergency_ends :
    (evacuation true false true none).emergency.filtered = true ∧ (evacuation true true false (some 1)).emergency.stationMark = true
    ∧ (evacuation true false false (some 1)).emergency.releaseTimer ≠ none
    ∧ (evacuation true false false (some 1)).emergency.stationMark = false
    ∧ (evacuation true false false (some 1)).emergency.stage ≠ none
    ∧ (evacuation true false false (some 1)).emergency.stamp = some (1728000000, true)
    ∧ (evacuation true false false (some 1)).aisle.state = .emergency
    ∧ NoWaits (evacuation true false false (some 1)) ∧ (evacuation true false false (some 1)).drive.clearing = false
    ∧ PortFree (evacuation true true false none) ∧ (evacuation true true false none).emergency.inputMark = true
    ∧ PortFree (evacuation false true false none) ∧ (evacuation false true false none).emergency.inputMark = false
    ∧ (evacuation false true false none).emergency.stationMark = true
    ∧ (evacuation false true false none).emergency.filtered = false ∧ open0.emergency.stage = none := by
  unfold NoWaits PortFree
  decide

theorem witness_amnesty : 71582788 < 71582789 ∧ 4 < 5 ∧ 5 ≤ 71582788 ∧ 71582788 ≤ 71582788
    ∧ PortFree open0 ∧ PortFree (spared 20003) ∧ (28806420 - 2881) + 2880 < 28806420 * 60 / 60
    ∧ (spared 20003).time.day ≠ some (opDay (28806420 * 60 / 60) (spared 20003).rollover)
    ∧ (86400 ≤ 28806420 * 60 ∧ 28806420 * 60 ≤ 4294967294) ∧ (9312 ≤ 19200 ∧ 19200 ≤ 237312) ∧ ([] : List Byte).length ≠ 9 := by
  unfold PortFree
  decide

theorem witness_params : paramRange 1 = some (0, 255) ∧ paramRange 26 = some (64, 4096) ∧ 26 < 27 := by decide

/-- An IDLE aisle with the command OPEN and its close delay running, as a change to NORMALLY_CLOSED leaves it. -/
def idleOpen : State :=
  { open0 with
    aisle := { arbiterReset with state := .idle, closeDelay := some 400 }
    drive := serving1.drive }

theorem witness_aisle_mode : NoWaits serving1 ∧ PortFree serving1 ∧ serving1.aisle.state = .serving
    ∧ serving1.aisle.credits = { fromEnd := .a, card := 7, kind := .entry, deadline := some 4000 } :: []
    ∧ Vacant (openMode idleOpen) ∧ FollowsOpen (openMode idleOpen) ∧ PortFree (openMode idleOpen)
    ∧ Vacant (openMode (lingering serving1)) ∧ FollowsOpen (openMode (lingering serving1))
    ∧ PortFree (lingering serving1) ∧ (lingering serving1).aisle.state = .serving
    ∧ Vacant (withZones (lingering serving1) ⟨false, false, false⟩ none)
    ∧ decidedB.aisle.credits = [] ∧ decidedB.aisle.reservation ≠ none ∧ PortFree decidedB ∧ NoWaits decidedB := by
  unfold Vacant FollowsOpen NoWaits PortFree
  decide

theorem witness_aisle_mode_kept : NoWaits (violatedAt .aToB) ∧ PortFree (violatedAt .aToB)
    ∧ (violatedAt .aToB).aisle.state = .violation ∧ (violatedAt .aToB).aisle.reopenDelay ≠ some 0
    ∧ (violatedAt .aToB).params.reopenDelay ≠ 0 ∧ evacuated.aisle.state = .emergency ∧ PortFree evacuated
    ∧ PortFree faultedB ∧ faultedB.drive.clearing = false ∧ NoWaits idleOpen ∧ Vacant idleOpen
    ∧ idleOpen.aisle.closeDelay ≠ none ∧ idleOpen.params.aisleMode = .normallyClosed ∧ idleOpen.running = true := by
  unfold Vacant NoWaits PortFree
  decide

/-- R110: NORMALLY_OPEN opens the flaps of an IDLE aisle at once; NORMALLY_CLOSED starts the close delay of one whose flaps
stand open, and the aisle stays IDLE when it runs out. -/
theorem test_aisle_mode : (after (.paramSet 4 1) open0).drive.command = .toOpen
    ∧ (after (.paramSet 4 1) open0).drive.flap = .opening
    ∧ (after (.paramSet 4 0) (openMode { idleOpen with aisle := { idleOpen.aisle with closeDelay := none } })).aisle.closeDelay
      = some 400
    ∧ (after .closeDelayExpiry idleOpen).drive.command = .toClose ∧ (after .closeDelayExpiry idleOpen).aisle.state = .idle := by
  decide

/-- Both ends wait at priority 4 behind two credits of end B. -/
theorem witness_priority : (behind 2 true).ctx .b = .waitAisle leaving 3000 ∧ PortFree (behind 2 true)
    ∧ (behind 2 true).params.serviceMode = .inService ∧ (behind 2 true).aisle.reservation = none
    ∧ (behind 2 true).aisle.state = .serving ∧ (behind 2 true).aisle.owned = some (endDir .b)
    ∧ (behind 2 true).aisle.credits ≠ [] ∧ (behind 2 true).aisle.credits.length < 3 ∧ CanComplete (behind 2 true)
    ∧ (after (.paramSet 6 5) (behind 2 true)).params.priority.get End.b.other
      < (after (.paramSet 6 5) (behind 2 true)).params.priority.get .b
    ∧ (behind 2 true).params.priority.get .a = (behind 2 true).params.priority.get .b := by
  unfold PortFree CanComplete
  decide +kernel

/-- R96: the raised priority grants the wait; an equal one does not. -/
theorem test_priority : (after (.paramSet 6 5) (behind 2 true)).ctx .b = .decided leaving 1500
    ∧ (after (.paramSet 6 4) (behind 2 true)).ctx .b = .waitAisle leaving 3000 := by decide +kernel

/-- 2000 slots are free, the threshold 1024. -/
theorem witness_near_full : { open0 with journal := { open0.journal with free := 2000 } }.params.nearFull < 4096
    ∧ { open0.journal with free := 2000 }.free ≤ 4096 := by decide

/-- A violation whose reopen delay runs, and an aisle OUT_OF_SERVICE by a FAULT. -/
theorem witness_mode_kept :
    ({ serving1 with aisle := { serving1.aisle with state := .violation } } : State).aisle.state = .violation
    ∧ serving1.aisle.reopenDelay ≠ some 0 ∧ serving1.params.reopenDelay ≠ 0 ∧ decidedB.aisle.reservation ≠ none
    ∧ decidedB.aisle.state = .serving ∧ PortFree decidedB ∧ NoWaits decidedB
    ∧ faultedB.aisle.state = .outOfService ∧ faultedB.drive.flap = .fault ∧ faultedB.drive.clearing = false := by
  unfold NoWaits PortFree
  decide

theorem witness_mode : NoWaits open0 ∧ 1 < 2 ∧ open0.aisle.state = .idle ∧ open0.aisle.reservation = none
    ∧ serving1.aisle.state = .serving ∧ serving1.aisle.credits ≠ [] ∧ NoWaits serving1 ∧ PortFree serving1
    ∧ Vacant { open0 with aisle := arbiterReset } ∧ open0.drive.flap ≠ .fault ∧ open0.drive.clearing = false := by
  unfold Vacant NoWaits PortFree
  decide

/-- A drive in FAULT away from both limits. -/
def broken : State :=
  { open0 with
    aisle := arbiterReset, drive := { open0.drive with flap := .fault, closedLimit := filterAt false } }

theorem witness_fault_clear : PortFree broken ∧ broken.emergency.stage = none ∧ broken.drive.clearing = false
    ∧ broken.drive.flap = .fault ∧ broken.aisle.state = .outOfService ∧ broken.drive.closedLimit.accepted = false
    ∧ NoWaits broken ∧ open0.drive.flap ≠ .fault
    ∧ ({ broken with drive := { broken.drive with clearing := true } } : State).drive.clearing = true := by
  unfold NoWaits PortFree
  decide

/-! ### Deny list and tariff -/

/-- Generations next, equal, before and beyond the list's 0. -/
theorem witness_deny_judged : open0.deny.state ≠ .empty ∧ open0.deny.generation = 0
    ∧ (1 + 65536 - 0) % 65536 = 1 ∧ (0 + 65536 - 0) % 65536 = 0 ∧ 32768 ≤ (32768 + 65536 - 0) % 65536
    ∧ (2 ≤ (32767 + 65536 - 0) % 65536 ∧ (32767 + 65536 - 0) % 65536 < 32768)
    ∧ ({ open0 with deny := denyReset } : State).deny.state = .empty
    ∧ PortFree { open0 with deny := denyReset } ∧ ([] : List DenyItem).length < 1 ∧ 8 < (List.replicate 9 0).length := by
  unfold PortFree
  decide

/-- A frame in hand: one entry, or two. -/
def applying (adding : Bool) (items : List DenyItem) : State :=
  { held open0 11 with deny := { open0.deny with
      entries := [{ card := 4, origin := .aisle, reason := 0, added := 0 }], localOrder := [4]
      job := some { adding := adding, generation := 1, rest := items, notAdded := 0 } } }

/-- A deny list of 8192 STATION entries. -/
def fullList : List DenyEntry := (List.range 8192).map fun k => { card := k + 1, origin := .station, reason := 0, added := 0 }

theorem witness_deny_entry : (applying true [⟨9, 1⟩]).running = true ∧ NoWaits (applying true [⟨9, 1⟩])
    ∧ (applying true [⟨9, 1⟩]).deny.job = some { adding := true, generation := 1, rest := ⟨9, 1⟩ :: [], notAdded := 0 }
    ∧ (applying true [⟨9, 1⟩]).station.inbound = some { form := .addressed, kind := 11, cancelled := false }
    ∧ (∀ e, ((applying true [⟨9, 1⟩]).ctx e).tag ≠ .waitAisle) ∧ (applying true [⟨9, 1⟩]).deny.find 9 = none
    ∧ (applying true [⟨9, 1⟩]).deny.entries.length < 8192
    ∧ (applying true [⟨4, 1⟩]).deny.find 4 = some { card := 4, origin := .aisle, reason := 0, added := 0 }
    ∧ (applying false [⟨4, 0⟩, ⟨5, 0⟩]).deny.job
      = some { adding := false, generation := 1, rest := ⟨4, 0⟩ :: [⟨5, 0⟩], notAdded := 0 } := by
  refine ⟨?_, ?_, ?_, ?_, ?_, ?_, ?_, ?_, ?_⟩
  case refine_2 => unfold NoWaits; decide
  case refine_5 => intro e; cases e <;> decide
  all_goals decide

theorem witness_deny_full : 8192 ≤ fullList.length := by unfold fullList; simp

/-- A deny list of `n` entries, one of them LOCAL. -/
def oneLocal (n : Nat) : DenyList :=
  { open0.deny with
    entries := (List.range n).map fun k =>
      { card := k + 1, origin := if k = 6 then .aisle else .station, reason := 0, added := 0 }
    localOrder := [7] }

/-- Of 8192 it is full. -/
theorem witness_one_local (n : Nat) (h : 6 < n) (hn : n ≤ 8192) : (oneLocal n).WF ∧ (oneLocal n).entries.length = n
    ∧ (oneLocal n).localOrder = 7 :: [] ∧ (oneLocal n).find 9000 = none := by
  refine ⟨⟨?_, ?_, by simp [oneLocal], by simp [oneLocal], fun c => ?_⟩, by simp [oneLocal], rfl, ?_⟩
  · simp only [oneLocal, List.map_map, List.pairwise_map]
    exact List.pairwise_lt_range.imp fun h => by simpa using h
  · simpa [oneLocal] using hn
  · constructor
    · intro hc
      obtain rfl : c = 7 := by simpa [oneLocal] using hc
      exact ⟨_, List.mem_map.2 ⟨6, List.mem_range.2 h, rfl⟩, rfl, rfl⟩
    · rintro ⟨x, hx, rfl, ho⟩
      obtain ⟨k, -, rfl⟩ := List.mem_map.1 hx
      by_cases hk : k = 6
      · simp [oneLocal, hk]
      · simp [hk] at ho
  · simp only [oneLocal, DenyList.find, List.find?_eq_none, List.mem_map, List.mem_range]
    rintro x ⟨k, hk, rfl⟩
    simp only [beq_iff_eq]
    omega

/-- A tariff being loaded. -/
def loading : State :=
  { open0 with tariff := { open0.tariff with pending := { pendingEmpty with state := .loading, taken := [3] } } }

theorem witness_tariff_load : PortFree open0 ∧ open0.tariff.pending.state = .empty ∧ PortFree loading
    ∧ loading.tariff.pending.state = .loading ∧ (List.replicate 64 (0 : Byte)).length = 64
    ∧ (4 ∉ loading.tariff.pending.taken ∧ loading.tariff.queue.length < 4) ∧ 3 ∈ loading.tariff.pending.taken := by
  unfold PortFree
  decide

/-- A load whose TARIFF_END waits. -/
def ending : State :=
  { held loading 17 with tariff := { loading.tariff with pending := { loading.tariff.pending with endCheck := some 9 } } }

theorem witness_validated : ending.running = true ∧ ending.tariff.pending.state = .loading
    ∧ ending.tariff.pending.endCheck = some 9 ∧ (∀ op ∈ ending.tariff.queue, op.isLoad = false)
    ∧ ending.station.inbound = some { form := .addressed, kind := 17, cancelled := false }
    ∧ (match (ending.loadFacts 9).validate with | .error r => r == .blockSet | .ok _ => false) = true := by
  decide +kernel

/-- The 17 blocks of an image with no band but the whole day, a fare step of 10 and a key in slot 0. -/
def blocks17 : List (Nat × List Byte) :=
  (List.range 17).map fun k => (k, (List.range 64).map fun j =>
    if 64 * k + j = 4 then 17 else if 64 * k + j = 271 then 10
    else if 64 * k + j = 784 ∨ 64 * k + j = 809 ∨ 64 * k + j = 834 then 1 else if 64 * k + j = 998 then 15
    else if 64 * k + j = 1000 then 180 else if 64 * k + j = 1002 then 1 else 0)

/-- The image they make. -/
def image17 : List Byte := (List.range 17).flatMap (blockBytes blocks17)

/-- The blocks of the image in flash with TARIFF_END waiting. -/
def endingWell : State :=
  { ending with
    tariff := { ending.tariff with pending := { ending.tariff.pending with
      taken := List.range 17, endCheck := some (crc16 image17) } }
    flash := { flashBlank with areaOne := { areaBlank with blocks := blocks17 } } }

theorem witness_validated_well : endingWell.tariff.pending.endCheck = some (crc16 image17)
    ∧ (endingWell.loadFacts (crc16 image17)).validate = .ok (tariffOf image17) := by
  refine ⟨rfl, ?_⟩
  have hc : (endingWell.loadFacts (crc16 image17)).count = 17 := by decide +kernel
  have hi : (endingWell.loadFacts (crc16 image17)).image 17 = image17 := rfl
  unfold LoadFacts.validate
  rw [hc]
  simp only [hi]
  rw [if_neg (by decide), if_neg (by decide), if_neg (by decide), if_neg (by simp only [State.loadFacts, ne_eq, not_true_eq_false, not_false_eq_true]),
    if_neg (by decide +kernel), if_neg (by decide +kernel), if_neg (by decide +kernel), if_neg (by decide +kernel),
    if_neg (by decide +kernel)]

/-! ### Journal, station line, flash, power -/

theorem witness_journal_requests : (0 < 1 ∧ 3 < 4) ∧ (1 ≤ 1 ∧ 3 ≤ 3) ∧ open0.journal.cursor = 1
    ∧ ({ open0 with journal := { open0.journal with queue := [⟨20116, 5, { kind := .start }⟩] } } : State).readable ≠ []
    ∧ open0.readable = [] := by decide

/-- 9.10: pages 5 and 6 WRITTEN, page 7 CURRENT with the newest record still in the write queue; one record a page stands
for the page's 64. -/
def collecting : State :=
  { open0 with
    journal := { open0.journal with
      lastSeq := 70405, queue := [⟨70405, 5, { kind := .start }⟩], page := some 7, used := 5, progPage := 7, progSlot := 4
      pages := ((open0.journal.pages.set 5 .written).set 6 .written).set 7 .current
      cursor := 70276, mark := 70272, newestProgrammed := 70404 }
    flash := { flashBlank with slots := [(383, .record ⟨70336, 5, { kind := .start }⟩),
      (447, .record ⟨70400, 5, { kind := .start }⟩), (451, .record ⟨70404, 5, { kind := .start }⟩)] } }

/-- R158: a collected page, one with a sequence above the mark, and with an empty queue one that holds the newest record. -/
theorem witness_release : PortFree collecting ∧ collecting.journal.mark < min 70336 collecting.journal.newestProgrammed
    ∧ PageCollected collecting 70336 5 ∧ ¬PageCollected collecting 70336 6 ∧ PageCollected collecting 70404 6
    ∧ ¬PageCollected { collecting with journal := { collecting.journal with
        queue := [], pages := collecting.journal.pages.set 7 .written } } 70404 7
    ∧ min 70272 collecting.journal.newestProgrammed ≤ collecting.journal.mark := by
  unfold PortFree PageCollected
  decide +kernel

/-- 9.10: JOURNAL_RELEASE(70,500) releases both pages with the mark 70,404; a release of the first page alone does so. -/
theorem test_release : (after (.journalRelease 70500) collecting).journal.eraseQueue = [5, 6]
    ∧ (after (.journalRelease 70500) collecting).journal.mark = 70404
    ∧ (after (.journalRelease 70336) collecting).journal.eraseQueue = [5] := by decide +kernel

/-- A reply in hand. -/
def replying (kind : Nat) (out : Bool) : State :=
  (held open0 kind).withStation { (held open0 kind).station with
    reply := some { kind := kind, status := .ok, payload := [] }, direction := out }

theorem witness_station_line : open0.listening = true ∧ open0.station.inbound = none
    ∧ (held open0 11).station.inbound = some { form := .addressed, kind := 11, cancelled := false }
    ∧ (held open0 11).station.direction = false ∧ (held open0 11).station.reply = none
    ∧ (replying 6 false).station.reply = some { kind := 6, status := .ok, payload := [] }
    ∧ (replying 6 false).station.direction = false ∧ (replying 6 true).station.direction = true
    ∧ (replying 25 true).station.inbound = some { form := .addressed, kind := 25, cancelled := false }
    ∧ (replying 25 true).running = true
    ∧ (replying 25 false).station.reply = some { kind := 25, status := .ok, payload := [] }
    ∧ (replying 25 false).station.direction = false ∧ (replying 25 false).running = true
    ∧ (StationRequest.timeSet 86400).fits = true ∧ StationRequest.timeSet 86400 ≠ .info := by decide

/-- A record to program. -/
def start1 : Record := { sequence := 20116, time := 5, data := { kind := .start } }

/-- The state with a record in its write queue. -/
def queued1 : State := { open0 with journal := { open0.journal with queue := [start1] } }

theorem witness_flash_turns : (busyWith open0 .record).store.busy ≠ none ∧ queued1.store.busy = none
    ∧ queued1.running = true ∧ queued1.journal.queue ≠ [] ∧ open0.journal.queue = []
    ∧ ({ open0 with journal := { open0.journal with eraseQueue := [4] } } : State).journal.eraseQueue = 4 :: []
    ∧ open0.tariff.queue = [] ∧ 64 ≤ open0.journal.free
    ∧ ({ open0 with tariff := { open0.tariff with queue := [.erase .two] } } : State).tariff.queue = .erase .two :: [] := by
  decide

theorem witness_journal_results : (busyWith queued1 .record).listening = true ∧ (busyWith queued1 .record).store.busy = some .record
    ∧ (busyWith queued1 .record).journal.queue = start1 :: [] ∧ queued1.journal.reserved < queued1.journal.free
    ∧ (fullJournal queued1).journal.reserved = 0
    ∧ ({ queued1 with journal := { queued1.journal with free := 0 } } : State).journal.free ≤ queued1.journal.reserved
    ∧ (busyWith open0 (.pageRelease 9)).store.busy = some (.pageRelease 9) := by decide

/-- A completion record being programmed for a waiting TARIFF_END, its tariff due now. -/
def completing (valid : Bool) : State :=
  { busyWith ending (.tariff (.completion .one ⟨22, 0, 17, 9⟩) false) with
    time := { open0.time with valid := valid }
    tariff := { ending.tariff with pending := { ending.tariff.pending with image := some tariff22 } } }

theorem witness_tariff_results :
    (busyWith open0 (.tariff (.erase .one) false)).store.busy = some (.tariff (.erase .one) false)
    ∧ (busyWith open0 (.tariff (.block .one 3 [5]) false)).store.busy = some (.tariff (.block .one 3 [5]) false)
    ∧ (completing true).store.busy = some (.tariff (.completion .one ⟨22, 0, 17, 9⟩) false) ∧ (completing true).running = true
    ∧ (completing true).tariff.pending.endCheck = some 9
    ∧ (completing true).station.inbound = some { form := .addressed, kind := 17, cancelled := false }
    ∧ (completing true).time.valid = true ∧ (completing true).tariff.pending.image = some tariff22
    ∧ (tariff22.effectiveDay : Int) ≤ opDay ((completing true).time.counter / 60) tariff22.rollover
    ∧ (completing false).time.valid = false
    ∧ (busyWith open0 (.tariff (.marker .one 2 22) false)).store.busy = some (.tariff (.marker .one 2 22) false)
    ∧ CanAppend (busyWith open0 (.tariff (.marker .one 2 22) false))
    ∧ (busyWith open0 (.tariff (.erase .one) false)).listening = true := by
  unfold CanAppend
  decide +kernel

/-- A tariff whose day has not come, and operations that are disregarded. -/
theorem witness_tariff_not_due :
    opDay ((completing true).time.counter / 60) 0 < (30000 : Int)
    ∧ (busyWith open0 (.tariff (.erase .one) true)).store.busy = some (.tariff (.erase .one) true)
    ∧ (busyWith open0 (.tariff (.block .two 3 [5]) true)).store.busy = some (.tariff (.block .two 3 [5]) true)
    ∧ (busyWith open0 (.tariff (.completion .one ⟨22, 0, 17, 9⟩) true)).store.busy
      = some (.tariff (.completion .one ⟨22, 0, 17, 9⟩) true) := by decide

/-- A due tariff completed on an older day in force, with the windows of `spared`. -/
def completingLate : State :=
  { completing true with time := (spared 20003).time, emergency := (spared 20003).emergency }

/-- R27, R36, R143: the day rollover within an activation removes the window of 2881 minutes. -/
theorem test_activation_rollover :
    (after (.completionRecordDone true) completingLate).emergency.amnesty = [⟨41, 5, 28806420 - 2880⟩]
    ∧ (after (.completionRecordDone true) completingLate).time.day = some 20004 := by decide +kernel

/-- What holdover finds: a DECIDED context, a waiting one, erases, and a program. -/
theorem witness_holdover : decidedB.ctx .b = .decided leaving 1500 ∧ (decidedB.ctx .a).tag ≠ .decided
    ∧ leaving.image ≠ none ∧ CanComplete decidedB ∧ decidedB.ctx .a = .idle
    ∧ waitingB.ctx .b = .waitAisle leaving 3000 ∧ waitingB.ctx .a = .idle ∧ waitingB.running = true
    ∧ (busyWith open0 (.pageRelease 9)).running = true
    ∧ (busyWith open0 (.tariff (.erase .one) false)).store.busy = some (.tariff (.erase .one) false)
    ∧ (busyWith queued1 .record).store.busy = some .record := by
  unfold CanComplete
  decide +kernel

/-- PFW taken as asserted. -/
def failing (s : State) : State := { s with store := { s.store with pfw := filterAt true } }

theorem witness_run_states :
    ({ open0 with store := { open0.store with supply := false } } : State).store.supply = false
    ∧ open0.store.supply = true ∧ open0.store.busy = none ∧ (busyWith queued1 .record).store.busy = some .record
    ∧ open0.running = true ∧ (inState open0 .halt).running = false
    ∧ (inState open0 .starting).store.run = .starting
    ∧ ({ inState open0 .starting with pins := { open0.pins with reset := true } } : State).pins.reset = true
    ∧ open0.store.run ≠ .starting ∧ open0.store.pfw.accepted = false
    ∧ (inState open0 (.holdover false)).store.run = .holdover false ∧ open0.journal.queue = []
    ∧ (failing (inState open0 .halt)).store.pfw.accepted = true ∧ (failing (inState open0 .halt)).store.run = .halt
    ∧ (failing (inState open0 (.holdover true))).store.pfw.accepted = true
    ∧ (inState open0 (.holdover true)).store.run = .holdover true ∧ open0.store.run ≠ .halt := by decide

theorem witness_start_up : State.reset.store.supply = true ∧ State.reset.store.run = .starting
    ∧ State.reset.pins.reset = false ∧ State.reset.store.busy = none ∧ NoWaits State.reset
    ∧ State.reset.aisle.state = .outOfService ∧ State.reset.drive.clearing = false ∧ 1 ≤ State.reset.flash.scan.free
    ∧ State.reset.flash.highestFound < 4294967295 ∧ State.reset.time.valid = false := by
  unfold NoWaits
  decide +kernel

/-- A start-up with the closed limit active. -/
def foundClosed : State := { State.reset with drive := { State.reset.drive with closedLimit := filterAt true } }

/-- Page 1 RELEASED with a record. -/
def foundReleased : State :=
  { State.reset with flash := { flashBlank with slots := [(64, .record { start1 with sequence := 500 })], releaseMarkers := [1] } }

theorem witness_starting : StartingAtRest foundClosed ∧ foundClosed.store.run = .starting
    ∧ StartingAtRest decidedB := by
  unfold StartingAtRest Vacant NoWaits
  decide

theorem witness_start_up_drive : State.reset.drive.flap = .stopped ∧ State.reset.drive.command = .toClose
    ∧ State.reset.drive.pause = none ∧ State.reset.drive.closeHold = false ∧ State.reset.monitor.zones.zF = false
    ∧ State.reset.drive.closedLimit.accepted = false ∧ foundClosed.drive.closedLimit.accepted = true
    ∧ foundClosed.store.run = .starting ∧ (withZones State.reset ⟨false, true, false⟩ none).monitor.zones.zF = true := by
  decide

/-- R133, R160: the flaps at the end of start-up, and the cursor at START's sequence with page 1 RELEASED (assumption log
56). -/
theorem test_start_up_drive : (after .startupEnd State.reset).drive.flap = .closing
    ∧ (after .startupEnd foundClosed).drive.flap = .closed
    ∧ (after .startupEnd foundReleased).journal.cursor = 1 ∧ (after .startupEnd foundReleased).journal.mark = 0 := by
  decide +kernel

/-- Torn slots on pages 5 and 9 alone, every other page RELEASED: page 9 is CURRENT and each torn slot is counted once
(assumption log 31). -/
theorem test_all_torn :
    let f : Flash := { flashBlank with
      slots := [(320, .torn), (321, .torn), (576, .torn)]
      releaseMarkers := (List.range 128).filter fun p => p != 5 && p != 9 }
    f.highestFound = 3 ∧ f.currentPage = some 9 ∧ f.lastPages = [5, 9] := by decide +kernel

/-- A start-up that finds every page RELEASED. -/
def allReleased : State := { State.reset with flash := { flashBlank with releaseMarkers := List.range 128 } }

/-- R166: no page is CURRENT, every page is RELEASED and every release is queued in ring order. -/
theorem test_all_released : (after .startupEnd allReleased).journal.eraseQueue = List.range 128
    ∧ (after .startupEnd allReleased).journal.pages = List.replicate 128 .released
    ∧ (after .startupEnd allReleased).journal.free = 0 := by decide +kernel

theorem witness_all_released : allReleased.store.supply = true ∧ allReleased.store.run = .starting
    ∧ allReleased.pins.reset = false ∧ allReleased.store.busy = none ∧ NoWaits allReleased
    ∧ allReleased.aisle.state = .outOfService ∧ allReleased.drive.clearing = false
    ∧ allReleased.flash.scan.free = 0 ∧ 127 ∈ allReleased.flash.releaseMarkers := by
  unfold NoWaits
  decide +kernel

/-- A start-up that finds a record in a page without a marker, the last sequence taken, and a READY tariff nowhere. -/
def lastTaken : State :=
  { State.reset with
    time := { counter := 1728000000, valid := true, day := none }
    flash := { flashBlank with slots := [(0, .record { start1 with sequence := 4294967295 })] } }

theorem witness_start_dropped : lastTaken.store.supply = true ∧ lastTaken.store.run = .starting
    ∧ lastTaken.pins.reset = false ∧ NoWaits lastTaken ∧ 4294967295 ≤ lastTaken.flash.highestFound
    ∧ lastTaken.flash.slot 0 = some (.record { start1 with sequence := 4294967295 })
    ∧ 0 / 64 ∉ lastTaken.flash.releaseMarkers ∧ lastTaken.time.valid = true
    ∧ lastTaken.flash.reload.pending.state ≠ .ready := by
  unfold NoWaits
  decide +kernel

end Sys2Proof.Tests
end

section
/-!
R49: rounding the scaled value to the nearest multiple of the step. `10000 * step` is the divisor and `5000 * step` half
of it, so the two laws of the quotient, `divisor * quotient ≤ n < divisor * (quotient + 1)`, say that the fare is the
nearest multiple and that a half goes up.
-/
namespace Sys2Proof.Machine

/-- R49's fare steps lie from 1 to 100 minor units. -/
theorem fareStep_bounds {step : Nat} (h : step ∈ [1, 2, 5, 10, 20, 50, 100]) : 1 ≤ step ∧ step ≤ 100 := by
  simp only [List.mem_cons, List.not_mem_nil, or_false] at h
  omega

theorem step_dvd_scaledFare (base percent discount step : Nat) : step ∣ scaledFare base percent discount step :=
  Nat.dvd_mul_right _ _

/-- The fare in the units of the scaled value, as the divisor times the quotient. -/
theorem mul_scaledFare (base percent discount step : Nat) : 10000 * scaledFare base percent discount step =
    10000 * step * ((base * percent * (100 - discount) + 5000 * step) / (10000 * step)) :=
  (Nat.mul_assoc ..).symm

/-- The fare exceeds the scaled value by at most half a step. -/
theorem mul_scaledFare_le (base percent discount step : Nat) :
    10000 * scaledFare base percent discount step ≤ base * percent * (100 - discount) + 5000 * step := by
  rw [mul_scaledFare]
  exact Nat.mul_div_le _ _

/-- The scaled value exceeds the fare by less than half a step. -/
theorem lt_mul_scaledFare_add (base percent discount : Nat) {step : Nat} (hstep : 0 < step) :
    base * percent * (100 - discount) < 10000 * scaledFare base percent discount step + 5000 * step := by
  have hdiv := Nat.lt_mul_div_succ (base * percent * (100 - discount) + 5000 * step)
    (show 0 < 10000 * step by omega)
  rw [Nat.mul_succ, ← mul_scaledFare] at hdiv
  omega

/-- The largest base fare (65,535) at the largest band percent (250) bounds every scaled value. -/
theorem scaledValue_le {base percent : Nat} (hbase : base ≤ 65535) (hpercent : percent ≤ 250) (discount : Nat) :
    base * percent * (100 - discount) ≤ 1638375000 :=
  calc base * percent * (100 - discount) ≤ 65535 * 250 * 100 :=
        Nat.mul_le_mul (Nat.mul_le_mul hbase hpercent) (Nat.sub_le 100 discount)
    _ = 1638375000 := rfl

theorem scaledFare_mono {base percent discount base' percent' discount' : Nat} (step : Nat)
    (h : base * percent * (100 - discount) ≤ base' * percent' * (100 - discount')) :
    scaledFare base percent discount step ≤ scaledFare base' percent' discount' step :=
  Nat.mul_le_mul_left _ (Nat.div_le_div_right (Nat.add_le_add_right h _))

/-- With nothing to pay, half a step rounds down to 0. -/
theorem scaledFare_full_discount (base percent : Nat) {step : Nat} (hstep : 0 < step) :
    scaledFare base percent 100 step = 0 := by
  have hsmall : 5000 * step < 10000 * step := by omega
  simp [scaledFare, Nat.div_eq_of_lt hsmall]

/-- The largest fare does not fit 16 bits at any step up to 100, so the fare has to be saturated. -/
theorem lt_scaledFare_largest {step : Nat} (hpos : 0 < step) (hstep : step ≤ 100) :
    65535 < scaledFare 65535 250 0 step := by
  have hnear := lt_mul_scaledFare_add 65535 250 0 hpos
  omega

/-- Settles O32: the fare is nearest by the two laws of the quotient, and bounded by the largest scaled value. -/
theorem fareIsRoundedHalfUp : Obligations.FareIsRoundedHalfUp := by
  refine ⟨fun base b c S hbase hb _ hS => ?_, by decide, by decide, fun base b _ => scaledFare_full_discount base b⟩
  obtain ⟨hpos, hle⟩ := fareStep_bounds hS
  have hvalue := scaledValue_le hbase hb c
  exact ⟨rfl, step_dvd_scaledFare .., mul_scaledFare_le .., lt_mul_scaledFare_add _ _ _ hpos, hvalue,
    by omega, by omega, by omega, scaledFare_mono S hvalue, rfl, lt_scaledFare_largest hpos hle⟩

end Sys2Proof.Machine
end

section
/-!
R142, R143: AMNESTY_ADD in its two forms, the frames of its kind whose payload is not one window, and the windows a day
rollover removes. A part that takes requests (`PortFree`) brings each frame to `acceptFrame` in the same state, so what
the request's owner answers is carried once to every form and every way in.
-/
namespace Sys2Proof.Machine

variable {s t : State}

/-! ## The close of an event -/

/-- The service summary reads neither the emergency sequencer, the station port nor the flash store's choice (R178). -/
theorem summary_eq_of_unchanged (h : Unchanged [.emergency, .station, .busy] s t) : t.summary = s.summary := by
  have haisle : t.aisle = s.aisle := h .aisle (by decide)
  have hparams : t.params = s.params := h .params (by decide)
  have hpins : t.pins = s.pins := h .pins (by decide)
  have htime : t.time = s.time := h .time (by decide)
  have htariff : t.tariff = s.tariff := h .tariff (by decide)
  have hdrive : t.drive = s.drive := h .drive (by decide)
  have hjournal : t.journal = s.journal := h .journal (by decide)
  have hrefusal : t.serviceRefusal = s.serviceRefusal := by
    unfold State.serviceRefusal State.unconfigured State.faultOutOfService
    rw [haisle, hparams, hpins, htime, htariff, hdrive]
  unfold State.summary
  rw [hrefusal, hjournal]

theorem conclude_eq_flashKick (h : Unchanged [.emergency, .station] s t) : State.conclude s t = t.flashKick :=
  if_pos (summary_eq_of_unchanged (h.andThen (flashKick_frame t))).symm

theorem emergency_conclude (s t : State) : (State.conclude s t).emergency = t.emergency :=
  conclude_frame s t .emergency (by decide)

theorem withStation_frame (s : State) (p : StationPort) : Unchanged [.station] s (s.withStation p) := station_frame s p

/-! ## RUN -/

theorem supply_and_run_of_running (h : s.running = true) : s.store.supply = true ∧ s.store.run = .run := by
  simpa [State.running] using h

theorem PortFree.running (h : PortFree s) : s.running = true := h.1

theorem PortFree.inbound (h : PortFree s) : s.station.inbound = none := h.2.1

theorem listening_of_running (h : s.running = true) : s.listening = true := by
  obtain ⟨hsupply, hrun⟩ := supply_and_run_of_running h
  simp [State.listening, hsupply, hrun]

theorem working_of_running (h : s.running = true) : s.working = true := by
  obtain ⟨hsupply, hrun⟩ := supply_and_run_of_running h
  simp [State.working, hsupply, hrun]

theorem onLine_of_running (h : s.running = true) (f : State → State) : s.onLine f = State.conclude s (f s) :=
  if_pos (listening_of_running h)

/-! ## The inbound buffer (R181, R182) -/

/-- A finished request in hand that is not cancelled changes the station port alone. -/
theorem finish_frame {b : Inbound} (hb : s.station.inbound = some b) (hc : b.cancelled = false) (a : Answer) :
    Unchanged [.station] s (s.finish a) := by
  have hfinish : s.finish a = if b.form = .broadcast then s.freeInbound else
      { s with station := { s.station with
        reply := some { kind := b.kind, status := a.status, payload := a.payload } } } := by
    simp [State.finish, hb, hc]
  rw [hfinish]
  exact (station_frame s _).ite (station_frame s _)

theorem finish_holding (s : State) (p : StationPort) (form : Form) (kind : Nat) (a : Answer) :
    (s.withStation (p.holding form kind)).finish a = s.withStation (p.answered form kind a) := by
  cases form <;> rfl

theorem acceptFrame_addressed {p : StationPort} (hp : p.inbound = none) (kind : Nat) (d : Decoded) :
    (s.withStation { p with receive := .waitBreak }).acceptFrame .addressed kind d
      = (s.withStation (p.holding .addressed kind)).takeAddressed kind d :=
  if_neg (by simp [State.withStation, hp])

theorem acceptFrame_broadcast {p : StationPort} (hp : p.inbound = none) (kind : Nat) (d : Decoded) :
    (s.withStation { p with receive := .waitBreak }).acceptFrame .broadcast kind d
      = (s.withStation (p.holding .broadcast kind)).takeBroadcast kind d :=
  if_neg (by simp [State.withStation, hp])

/-- A request of a kind that may be broadcast reaches its owner from either form, the buffer holding it. -/
theorem acceptFrame_request (hrun : s.running = true) {p : StationPort} (hp : p.inbound = none) {kind : Nat}
    (hkind : broadcastKind kind = true) (form : Form) (r : StationRequest) :
    (s.withStation { p with receive := .waitBreak }).acceptFrame form kind (.request r)
      = State.finishIf ((s.withStation (p.holding form kind)).serve r) := by
  have hheld : (s.withStation (p.holding form kind)).running = true := hrun
  cases form with
  | addressed => rw [acceptFrame_addressed hp]; simp [State.takeAddressed, State.portStatus, hheld]
  | broadcast => rw [acceptFrame_broadcast hp]; simp [State.takeBroadcast, hkind, hheld]

/-- A payload length that is none is answered BAD_VALUE, or dropped when broadcast (R183). -/
theorem acceptFrame_badLength (hrun : s.running = true) {p : StationPort} (hp : p.inbound = none) {kind : Nat}
    (hkind : broadcastKind kind = true) (form : Form) :
    (s.withStation { p with receive := .waitBreak }).acceptFrame form kind .badLength
      = s.withStation (p.answered form kind (bare .badValue)) := by
  have hheld : (s.withStation (p.holding form kind)).running = true := hrun
  rw [← finish_holding]
  cases form with
  | addressed => rw [acceptFrame_addressed hp]; simp [State.takeAddressed, State.portStatus, hheld]
  | broadcast => rw [acceptFrame_broadcast hp, State.takeBroadcast, if_pos hkind, if_pos hheld]; rfl

/-! ## Frames on the line (R180, R181, 12.2) -/

/-- The address byte a request's form carries to an aisle (12.2). -/
def formAddress (aisle : Nat) : Form → Nat
  | .addressed => aisle
  | .broadcast => 63

theorem lineBroken_of_free (h : s.station.inbound = none) :
    s.lineBroken.awaitBreak = s.withStation { s.station with receive := .waitBreak } := by
  simp [State.lineBroken, h, State.awaitBreak, State.withStation]

theorem addressed_aisleNumber (h : PortFree s) (p : StationPort) :
    (s.withStation p).addressed (s.withStation p).pins.aisleNumber = true := by
  obtain ⟨-, -, hlow, hhigh⟩ := h
  have hzero : s.pins.aisleNumber ≠ 0 := by omega
  have hall : s.pins.aisleNumber ≠ 63 := by omega
  simp [State.addressed, State.withStation, hzero, hall]

theorem requestFrame_of_portFree (h : PortFree s) (form : Form) (kind : Nat) (d : Decoded) :
    s.requestFrame form kind d
      = (s.withStation { s.station with receive := .waitBreak }).acceptFrame form kind d := by
  have haddressed := addressed_aisleNumber h { s.station with receive := .waitBreak }
  unfold State.requestFrame
  rw [lineBroken_of_free h.inbound]
  cases form with
  | addressed => exact if_pos haddressed
  | broadcast => rfl

theorem crc8Shift_lt {c : Nat} (h : c < 256) : crc8Shift c < 256 := by
  unfold crc8Shift
  split
  · omega
  · exact Nat.xor_lt_two_pow (n := 8) (by omega) (by omega)

theorem shifts_crc8Shift_lt (n : Nat) {c : Nat} (h : c < 256) : shifts crc8Shift n c < 256 := by
  induction n generalizing c with
  | zero => exact h
  | succ n ih => exact ih (crc8Shift_lt h)

/-- A CRC-8 fits its byte. -/
theorem crc8_lt (bs : List Byte) : crc8 bs < 256 := by
  refine List.foldlRecOn (motive := (· < 256)) bs _ (by decide) fun c hc b _ => ?_
  have hxor : Nat.xor c b.toNat < 256 := Nat.xor_lt_two_pow (n := 8) hc b.isLt
  exact shifts_crc8Shift_lt 8 hxor

theorem toNat_byte {n : Nat} (h : n < 256) : (byte n).toNat = n := Nat.mod_eq_of_lt h

/-- The byte at an offset, read as a number. -/
theorem numField_append_byte (l m : List Byte) {n : Nat} (h : n < 256) :
    numField (l ++ byte n :: m) l.length 1 = n := by
  simp [numField, field, beNat, toNat_byte h]

/-- What R181 reads of a frame: its address, kind, length, payload and check. -/
theorem stationFrame_fields {address kind : Nat} {p : List Byte} (ha : address < 256) (hk : kind < 256)
    (hp : p.length < 256) {bs : List Byte} (hbs : bs = stationFrame address kind p) :
    numField bs 0 1 = address ∧ numField bs 1 1 = kind ∧ numField bs 2 1 = p.length ∧ bs.length = p.length + 4
      ∧ field bs 3 p.length = p ∧ numField bs (p.length + 3) 1 = crc8 (bs.take (p.length + 3)) := by
  subst hbs
  refine ⟨numField_append_byte [] _ ha, numField_append_byte [byte address] _ hk,
    numField_append_byte [byte address, byte kind] _ hp, ?_, ?_, ?_⟩
  · simp [stationFrame]
  · simp [stationFrame, field]
  · have hcheck := numField_append_byte (byte address :: byte kind :: byte p.length :: p) [] (crc8_lt
      (byte address :: byte kind :: byte p.length :: p))
    simpa [stationFrame] using hcheck

theorem judgeFrame_stationFrame (h : PortFree s) (q : StationPort) (form : Form) {kind : Nat} (hk : kind < 256)
    {p : List Byte} (hp : p.length ≤ 120) :
    (s.withStation q).judgeFrame (stationFrame (formAddress s.pins.aisleNumber form) kind p)
      = (s.withStation q).acceptFrame form kind (decodeStation kind p) := by
  have haddressed := addressed_aisleNumber h q
  obtain ⟨-, -, -, hhigh⟩ := h
  have haddress : formAddress s.pins.aisleNumber form < 256 := by cases form <;> simp only [formAddress] <;> omega
  obtain ⟨hto, hof, hlen, hlength, hpayload, hcheck⟩ := stationFrame_fields haddress hk (by omega) rfl (p := p)
  have hwhole : ¬(p.length + 4 < p.length + 4 ∨ 120 < p.length) := by omega
  simp only [State.judgeFrame, hto, hof, hlen, hlength, hpayload, hcheck, ne_eq, not_true_eq_false, or_false,
    if_neg hwhole]
  cases form with
  | addressed =>
    have hall : s.pins.aisleNumber ≠ 63 := by omega
    have hself : (s.withStation q).addressed s.pins.aisleNumber = true := haddressed
    simp [formAddress, hall, hself]
  | broadcast => rfl

/-- A frame at a bit rate in range is judged, the rate measured (R180). -/
theorem frameArrives_of_portFree (h : PortFree s) {rate : Nat} (hlow : 9312 ≤ rate) (hhigh : rate ≤ 237312)
    (form : Form) {kind : Nat} (hk : kind < 256) {p : List Byte} (hp : p.length ≤ 120) :
    s.frameArrives rate (stationFrame (formAddress s.pins.aisleNumber form) kind p)
      = (s.withStation { ({ s.station with bitRate := some rate } : StationPort) with
          receive := .waitBreak }).acceptFrame form kind (decodeStation kind p) := by
  have hrate : rateTaken rate = true := by simp [rateTaken, hlow, hhigh]
  rw [State.frameArrives, if_pos hrate, lineBroken_of_free h.inbound]
  exact judgeFrame_stationFrame h _ form hk hp

/-! ## AMNESTY_ADD (R141, R142) -/

theorem amnestyAdd_frame (s : State) (w : Window) : Unchanged [.emergency] s (s.amnestyAdd w).1 := by
  unfold State.amnestyAdd
  split
  · exact .refl _ s
  · exact emergency_frame s _

/-- Whether the window joins, and the answer, do not depend on the station port. -/
theorem amnestyAdd_withStation (s : State) (p : StationPort) (w : Window) :
    (s.withStation p).amnestyAdd w = ((s.amnestyAdd w).1.withStation p, (s.amnestyAdd w).2) := by
  unfold State.amnestyAdd
  split <;> rfl

theorem amnestyAdd_of_illFormed {w : Window}
    (h : 71582788 < w.fromMinute ∨ 71582788 < w.toMinute ∨ w.toMinute < w.fromMinute) :
    s.amnestyAdd w = (s, bare .badValue) := if_pos h

theorem amnestyAdd_of_wellFormed {w : Window} (horder : w.fromMinute ≤ w.toMinute) (hmax : w.toMinute ≤ 71582788) :
    s.amnestyAdd w = ({ s with emergency := { s.emergency with amnesty := addWindow s.emergency.amnesty w } },
      okWith [byte (addWindow s.emergency.amnesty w).length]) :=
  if_neg (by simp only [maxMinute]; omega)

theorem addWindow_eq (l : List Window) (w : Window) : addWindow l w = (if l.length < 8 then l else l.tail) ++ [w] := by
  rcases Nat.lt_or_ge l.length 8 with h | h
  · rw [addWindow, if_pos h, if_neg (Nat.not_le.2 h)]
  · rw [addWindow, if_pos h, if_neg (Nat.not_lt.2 h)]

theorem exec_amnestyAdd (h : PortFree s) (form : Form) (station lo hi : Nat) {t : State} {a : Answer}
    (hadd : s.amnestyAdd { station := station, fromMinute := lo, toMinute := hi } = (t, a)) :
    exec (.amnestyAdd form station lo hi) s = .next (t.withStation (s.station.answered form 9 a)).flashKick := by
  have hserve : State.finishIf ((s.withStation (s.station.holding form 9)).serve (.amnestyAdd station lo hi))
      = t.withStation (s.station.answered form 9 a) := by
    rw [State.serve, amnestyAdd_withStation, hadd, ← finish_holding]
    rfl
  have hframe : Unchanged [.emergency, .station] s (t.withStation (s.station.answered form 9 a)) := by
    have hadded := amnestyAdd_frame s { station := station, fromMinute := lo, toMinute := hi }
    rw [hadd] at hadded
    exact hadded.andThen (withStation_frame t _)
  calc exec (.amnestyAdd form station lo hi) s
      = .next (s.onLine fun s => s.requestFrame form 9 (.request (.amnestyAdd station lo hi))) := rfl
    _ = .next (State.conclude s (t.withStation (s.station.answered form 9 a))) := by
      rw [onLine_of_running h.running, requestFrame_of_portFree h, acceptFrame_request h.running h.inbound rfl, hserve]
    _ = _ := by rw [conclude_eq_flashKick hframe]

/-- A frame of a kind that may be broadcast, its payload length none. -/
theorem exec_stationFrame_badLength (h : PortFree s) {rate : Nat} (hlow : 9312 ≤ rate) (hhigh : rate ≤ 237312)
    (form : Form) {kind : Nat} (hk : kind < 256) (hkind : broadcastKind kind = true) {p : List Byte}
    (hp : p.length ≤ 120) (hbad : decodeStation kind p = .badLength) :
    exec (.stationFrame rate (stationFrame (formAddress s.pins.aisleNumber form) kind p)) s = .next (s.withStation
      (({ s.station with bitRate := some rate } : StationPort).answered form kind (bare .badValue))).flashKick := by
  calc exec (.stationFrame rate (stationFrame (formAddress s.pins.aisleNumber form) kind p)) s
      = .next (s.onLine fun s' =>
          s'.frameArrives rate (stationFrame (formAddress s.pins.aisleNumber form) kind p)) := rfl
    _ = .next (State.conclude s (s.withStation
          (({ s.station with bitRate := some rate } : StationPort).answered form kind (bare .badValue)))) := by
      rw [onLine_of_running h.running, frameArrives_of_portFree h hlow hhigh form hk hp, hbad,
        acceptFrame_badLength h.running (by exact h.inbound) hkind]
    _ = _ := by rw [conclude_eq_flashKick ((withStation_frame s _).mono (by decide))]

/-! ## The day rollover (R27, R143) -/

theorem mem_amnesty_of_mem_expireAmnesty {w : Window} (h : w ∈ s.expireAmnesty.emergency.amnesty) :
    w ∈ s.emergency.amnesty ∧ s.minute ≤ w.toMinute + 2880 := by
  simp only [State.expireAmnesty, List.mem_filter, decide_eq_true_eq] at h
  exact ⟨h.1, by omega⟩

/-- The activation check adds no window: its own rollover can only remove some (R36). -/
theorem amnesty_activationCheck_subset (s : State) :
    s.activationCheck.emergency.amnesty ⊆ s.emergency.amnesty := by
  unfold State.activationCheck
  split
  · unfold State.activate
    dsimp only [State.emergency_attend]
    split
    · exact fun w hw => (mem_amnesty_of_mem_expireAmnesty hw).1
    · exact List.Subset.refl _
  · exact List.Subset.refl _

theorem not_mem_amnesty_dayUpdate (hday : s.dayDiffers = true) {w : Window} (hpast : w.toMinute + 2880 < s.minute) :
    w ∉ s.dayUpdate.emergency.amnesty := by
  intro hw
  rw [State.dayUpdate, if_pos hday] at hw
  have hkept := (mem_amnesty_of_mem_expireAmnesty (amnesty_activationCheck_subset _ hw)).2
  have hminute : s.setDay.minute = s.minute := rfl
  omega

theorem dayDiffers_of_ne (hvalid : s.time.valid = true)
    (hday : s.time.day ≠ some (opDay (s.time.counter / 60) s.rollover)) : s.dayDiffers = true := by
  simpa [State.dayDiffers, hvalid, State.operatingDay, State.minute] using hday

theorem not_mem_amnesty_secondCounted (hvalid : s.time.valid = true)
    (hday : s.time.day ≠ some (opDay (s.time.counter / 60) s.rollover)) {w : Window}
    (hpast : w.toMinute + 2880 < s.minute) : w ∉ s.secondCounted.emergency.amnesty :=
  not_mem_amnesty_dayUpdate (s := { s with
    sightings := purgeSightings s.params.retention s.time.counter s.sightings }) (dayDiffers_of_ne hvalid hday) hpast

/-- A second that comes to another day removes the windows more than 2880 minutes past. -/
theorem exec_secondTick_not_mem_amnesty (hrun : s.running = true) {w : Window}
    (hpast : w.toMinute + 2880 < (s.time.counter + 1) / 60) (hvalid : s.time.valid = true)
    (hcount : s.time.counter < 4294967294)
    (hday : s.time.day ≠ some (opDay ((s.time.counter + 1) / 60) s.rollover)) :
    ∃ u, exec .secondTick s = .next u ∧ w ∉ u.emergency.amnesty := by
  refine ⟨State.conclude s s.tickSecond, rfl, ?_⟩
  have htick : s.tickSecond = State.secondCounted { s with time := { s.time with counter := s.time.counter + 1 } } := by
    rw [State.tickSecond, if_neg (by omega), if_neg (by omega)]
    exact if_pos (working_of_running hrun)
  rw [emergency_conclude, htick]
  refine not_mem_amnesty_secondCounted ?_ ?_ ?_
  exacts [hvalid, hday, hpast]

theorem not_mem_amnesty_append_dayUpdate (d : RecordData) (hvalid : s.time.valid = true)
    (hday : s.time.day ≠ some (opDay (s.time.counter / 60) s.rollover)) {w : Window}
    (hpast : w.toMinute + 2880 < s.minute) : w ∉ (s.append d).dayUpdate.emergency.amnesty := by
  have htime : (s.append d).time = s.time := append_frame s d .time (by decide)
  have htariff : (s.append d).tariff = s.tariff := append_frame s d .tariff (by decide)
  refine not_mem_amnesty_dayUpdate (dayDiffers_of_ne ?_ ?_) ?_
  · rw [htime]; exact hvalid
  · rw [htime, State.rollover, htariff]; exact hday
  · rw [State.minute, htime]; exact hpast

theorem not_mem_amnesty_timeSet {n : Nat} (hlow : 86400 ≤ n) (hhigh : n ≤ 4294967294) {w : Window}
    (hpast : w.toMinute + 2880 < n / 60) (hday : s.time.day ≠ some (opDay (n / 60) s.rollover)) :
    w ∉ (s.timeSet n).1.emergency.amnesty := by
  rw [State.timeSet, if_neg (by omega)]
  exact not_mem_amnesty_append_dayUpdate _ rfl hday hpast

/-! ## The station port through a TIME_SET -/

theorem quiet_attend (s : State) (f : Attention → Attention) : (s.attend f).station.quiet = s.station.quiet := rfl

theorem quiet_pushRecord (s : State) (d : RecordData) : (s.pushRecord d).station.quiet = s.station.quiet := by
  have hnear (t : State) : t.noteNearFull.station.quiet = t.station.quiet := by
    unfold State.noteNearFull
    split <;> rfl
  unfold State.pushRecord
  rw [hnear]
  split <;> rfl

/-- An append touches the station port's attention flags alone. -/
theorem quiet_append (s : State) (d : RecordData) : (s.append d).station.quiet = s.station.quiet := by
  have hdropped : s.pushDropped.station.quiet = s.station.quiet := quiet_pushRecord s _
  unfold State.append
  split
  · split
    · exact quiet_pushRecord s d
    · rfl
  · split
    · exact (quiet_pushRecord _ d).trans hdropped
    · rfl

theorem quiet_activationCheck (s : State) : s.activationCheck.station.quiet = s.station.quiet := by
  unfold State.activationCheck
  split
  · unfold State.activate
    dsimp only
    rw [quiet_attend]
    split <;> rfl
  · rfl

theorem quiet_dayUpdate (s : State) : s.dayUpdate.station.quiet = s.station.quiet := by
  unfold State.dayUpdate
  rw [quiet_activationCheck]
  split <;> rfl

theorem quiet_timeSet (s : State) (n : Nat) : (s.timeSet n).1.station.quiet = s.station.quiet := by
  unfold State.timeSet
  split
  · rfl
  · exact (quiet_dayUpdate _).trans (quiet_append _ _)

/-- A TIME_SET leaves the emergency sequencer as its owner does: the reply and the event's close do not touch it. -/
theorem exec_timeSet_emergency (h : PortFree s) (form : Form) (n : Nat) :
    ∃ u, exec (.timeSet form n) s = .next u
      ∧ u.emergency = ((s.withStation (s.station.holding form 2)).timeSet n).1.emergency := by
  have hexec : exec (.timeSet form n) s = .next (State.conclude s
      (((s.withStation (s.station.holding form 2)).timeSet n).1.finish
        ((s.withStation (s.station.holding form 2)).timeSet n).2)) :=
    calc exec (.timeSet form n) s = .next (s.onLine fun s => s.requestFrame form 2 (.request (.timeSet n))) := rfl
      _ = .next (State.conclude s
            (State.finishIf ((s.withStation (s.station.holding form 2)).serve (.timeSet n)))) := by
        rw [onLine_of_running h.running, requestFrame_of_portFree h, acceptFrame_request h.running h.inbound rfl]
      _ = _ := rfl
  have hinbound : ((s.withStation (s.station.holding form 2)).timeSet n).1.station.inbound
      = some { form := form, kind := 2, cancelled := false } :=
    congrArg StationPort.inbound (quiet_timeSet (s.withStation (s.station.holding form 2)) n)
  exact ⟨_, hexec, (emergency_conclude _ _).trans (finish_frame hinbound rfl _ .emergency (by decide))⟩

/-- A TIME_SET to another day removes the windows more than 2880 minutes past. -/
theorem exec_timeSet_not_mem_amnesty (h : PortFree s) (form : Form) {w : Window} {n : Nat} (hlow : 86400 ≤ n)
    (hhigh : n ≤ 4294967294) (hpast : w.toMinute + 2880 < n / 60)
    (hday : s.time.day ≠ some (opDay (n / 60) s.rollover)) :
    ∃ u, exec (.timeSet form n) s = .next u ∧ w ∉ u.emergency.amnesty := by
  obtain ⟨u, hexec, hemergency⟩ := exec_timeSet_emergency h form n
  have hgone := not_mem_amnesty_timeSet (s := s.withStation (s.station.holding form 2)) hlow hhigh hpast hday
  exact ⟨u, hexec, hemergency ▸ hgone⟩

/-- Settles O46: an AMNESTY_ADD or a frame of its kind reaches `amnestyAdd` or `badLength` from both forms, and a
rollover keeps only windows that `expireAmnesty` keeps. -/
theorem amnestyWindowJoins : Obligations.AmnestyWindowJoins := by
  intro form station lo hi s hfree
  refine ⟨fun hbad => ?_, fun horder hmax l hl => ?_, fun rate p hlow hhigh hp hlength => ?_,
    fun w _ hpast hvalid hcount hday => exec_secondTick_not_mem_amnesty hfree.running hpast hvalid hcount hday,
    fun w _ n hlow hhigh hpast hday => exec_timeSet_not_mem_amnesty hfree form hlow hhigh hpast hday⟩
  · exact exec_amnestyAdd hfree form station lo hi (amnestyAdd_of_illFormed hbad)
  · rw [hl, ← addWindow_eq]
    exact exec_amnestyAdd hfree form station lo hi (amnestyAdd_of_wellFormed horder hmax)
  · have hdecode : decodeStation 9 p = .badLength := if_neg hlength
    exact ⟨exec_stationFrame_badLength hfree hlow hhigh .addressed (by decide) rfl hp hdecode,
      exec_stationFrame_badLength hfree hlow hhigh .broadcast (by decide) rfl hp hdecode⟩

end Sys2Proof.Machine
end
